-- ==== Sys2Proof/Word.lean ====
section
/-! DEFINITION. The two widths of the NERS CORE (00_scope.md R9): `u8` and `u16`. -/

namespace Sys2Proof

/-- `u8`: registers, status, memory cells, opcode and operand bytes. -/
abbrev Byte := BitVec 8

/-- `u16`: PC, addresses, pointers. -/
abbrev Addr := BitVec 16

end Sys2Proof
end

