-- ==== Sys2Proof/Config.lean ====
section
/-! DEFINITION. The configuration layer (00_scope.md R7, R13): what an implementation fixes. Nothing here changes
as the machine runs. The open parameters INIT_MEM and INIT_REGS are the arguments of `State.powerOn`. -/

namespace Sys2Proof

/-- EXEC_PROFILE (R5): which table opcodes execute. -/
inductive ExecProfile where
  | sourceV7
  | full
  deriving DecidableEq, Repr

/-- DECIMAL_MODE (43_alu.md R114): what ADC and SBC do when P.D = 1. -/
inductive DecimalMode where
  | binary
  | refuse
  deriving DecidableEq, Repr

/-- JMP_IND_WRAP (48_control.md R140): where JMP indirect reads the high byte of its target. -/
inductive JmpIndWrap where
  | nmosPageWrap
  | linear
  deriving DecidableEq, Repr

/-- The four settable parameters of R7. -/
structure Config where
  execProfile      : ExecProfile
  decimalMode      : DecimalMode
  jmpIndWrap       : JmpIndWrap
  loadWritesVector : Bool
  deriving DecidableEq, Repr

/-- The values this hardware takes (R7: FULL, BINARY, NMOS_PAGE_WRAP, true). -/
def Config.ners : Config :=
  { execProfile := .full, decimalMode := .binary, jmpIndWrap := .nmosPageWrap, loadWritesVector := true }

end Sys2Proof
end

