-- ==== Sys2Proof/Syntax.lean ====
section
/-! DEFINITION. The syntax of the instruction set (30_encoding.md): mnemonics, addressing-mode tags, operand forms,
operands, and `Instr` with one constructor per row of opcode_table.json. A constructor holds its operand bytes
assembled as R59 says, so no field can hold a value that the encoding does not admit. -/

namespace Sys2Proof

/-- The 56 mnemonics of R61. -/
inductive Mnemonic where
  | LDA | LDX | LDY | STA | STX | STY | TAX | TAY
  | TXA | TYA | TSX | TXS | ADC | SBC | AND | ORA
  | EOR | CMP | CPX | CPY | BIT | INC | DEC | INX
  | INY | DEX | DEY | ASL | LSR | ROL | ROR | CLC
  | SEC | CLI | SEI | CLD | SED | CLV | PHA | PHP
  | PLA | PLP | JMP | JSR | RTS | RTI | BPL | BMI
  | BVC | BVS | BCC | BCS | BNE | BEQ | BRK | NOP
  deriving DecidableEq, Repr

/-- The source's closed set of addressing-mode tags (R57). -/
inductive AddressingMode where
  | immediate | zeroPage | zeroPageX | zeroPageY | absolute | absoluteX | absoluteY | indirectX | indirectY
  | noneAddressing
  deriving DecidableEq, Repr

/-- The operand forms: the nine memory modes, and the five forms that R58 splits NoneAddressing into. -/
inductive Form where
  | immediate | zeroPage | zeroPageX | zeroPageY | absolute | absoluteX | absoluteY | indirectX | indirectY
  | implied | accumulator | relative | absoluteTarget | indirectTarget
  deriving DecidableEq, Repr

/-- An operand as R57 to R59 assemble it from the bytes after the opcode. -/
inductive Operand where
  | immediate (imm : Byte)
  | zeroPage (zp : Byte)
  | zeroPageX (zp : Byte)
  | zeroPageY (zp : Byte)
  | absolute (addr : Addr)
  | absoluteX (addr : Addr)
  | absoluteY (addr : Addr)
  | indirectX (zp : Byte)
  | indirectY (zp : Byte)
  | implied
  | accumulator
  | relative (rel : Byte)
  | absoluteTarget (addr : Addr)
  | indirectTarget (addr : Addr)
  deriving DecidableEq, Repr

/-- One constructor per row of opcode_table.json, in the order of the rules that give them meaning. -/
inductive Instr where
  -- LDA (R89)
  | ldaIndX (zp : Byte)
  | ldaZp (zp : Byte)
  | ldaImm (imm : Byte)
  | ldaAbs (addr : Addr)
  | ldaIndY (zp : Byte)
  | ldaZpX (zp : Byte)
  | ldaAbsY (addr : Addr)
  | ldaAbsX (addr : Addr)
  -- LDX (R90)
  | ldxImm (imm : Byte)
  | ldxZp (zp : Byte)
  | ldxAbs (addr : Addr)
  | ldxZpY (zp : Byte)
  | ldxAbsY (addr : Addr)
  -- LDY (R91)
  | ldyImm (imm : Byte)
  | ldyZp (zp : Byte)
  | ldyAbs (addr : Addr)
  | ldyZpX (zp : Byte)
  | ldyAbsX (addr : Addr)
  -- STA (R92)
  | staIndX (zp : Byte)
  | staZp (zp : Byte)
  | staAbs (addr : Addr)
  | staIndY (zp : Byte)
  | staZpX (zp : Byte)
  | staAbsY (addr : Addr)
  | staAbsX (addr : Addr)
  -- STX (R93)
  | stxZp (zp : Byte)
  | stxAbs (addr : Addr)
  | stxZpY (zp : Byte)
  -- STY (R94)
  | styZp (zp : Byte)
  | styAbs (addr : Addr)
  | styZpX (zp : Byte)
  -- TAX (R95)
  | tax
  -- TAY (R96)
  | tay
  -- TXA (R97)
  | txa
  -- TYA (R98)
  | tya
  -- TSX (R99)
  | tsx
  -- TXS (R100)
  | txs
  -- ADC (R105)
  | adcIndX (zp : Byte)
  | adcZp (zp : Byte)
  | adcImm (imm : Byte)
  | adcAbs (addr : Addr)
  | adcIndY (zp : Byte)
  | adcZpX (zp : Byte)
  | adcAbsY (addr : Addr)
  | adcAbsX (addr : Addr)
  -- SBC (R106)
  | sbcIndX (zp : Byte)
  | sbcZp (zp : Byte)
  | sbcImm (imm : Byte)
  | sbcAbs (addr : Addr)
  | sbcIndY (zp : Byte)
  | sbcZpX (zp : Byte)
  | sbcAbsY (addr : Addr)
  | sbcAbsX (addr : Addr)
  -- AND (R107)
  | andIndX (zp : Byte)
  | andZp (zp : Byte)
  | andImm (imm : Byte)
  | andAbs (addr : Addr)
  | andIndY (zp : Byte)
  | andZpX (zp : Byte)
  | andAbsY (addr : Addr)
  | andAbsX (addr : Addr)
  -- ORA (R108)
  | oraIndX (zp : Byte)
  | oraZp (zp : Byte)
  | oraImm (imm : Byte)
  | oraAbs (addr : Addr)
  | oraIndY (zp : Byte)
  | oraZpX (zp : Byte)
  | oraAbsY (addr : Addr)
  | oraAbsX (addr : Addr)
  -- EOR (R109)
  | eorIndX (zp : Byte)
  | eorZp (zp : Byte)
  | eorImm (imm : Byte)
  | eorAbs (addr : Addr)
  | eorIndY (zp : Byte)
  | eorZpX (zp : Byte)
  | eorAbsY (addr : Addr)
  | eorAbsX (addr : Addr)
  -- CMP (R110)
  | cmpIndX (zp : Byte)
  | cmpZp (zp : Byte)
  | cmpImm (imm : Byte)
  | cmpAbs (addr : Addr)
  | cmpIndY (zp : Byte)
  | cmpZpX (zp : Byte)
  | cmpAbsY (addr : Addr)
  | cmpAbsX (addr : Addr)
  -- CPX (R111)
  | cpxImm (imm : Byte)
  | cpxZp (zp : Byte)
  | cpxAbs (addr : Addr)
  -- CPY (R112)
  | cpyImm (imm : Byte)
  | cpyZp (zp : Byte)
  | cpyAbs (addr : Addr)
  -- BIT (R113)
  | bitZp (zp : Byte)
  | bitAbs (addr : Addr)
  -- INC (R116)
  | incZp (zp : Byte)
  | incAbs (addr : Addr)
  | incZpX (zp : Byte)
  | incAbsX (addr : Addr)
  -- DEC (R117)
  | decZp (zp : Byte)
  | decAbs (addr : Addr)
  | decZpX (zp : Byte)
  | decAbsX (addr : Addr)
  -- INX (R118)
  | inx
  -- INY (R119)
  | iny
  -- DEX (R120)
  | dex
  -- DEY (R121)
  | dey
  -- ASL (R123)
  | aslZp (zp : Byte)
  | aslAcc
  | aslAbs (addr : Addr)
  | aslZpX (zp : Byte)
  | aslAbsX (addr : Addr)
  -- LSR (R124)
  | lsrZp (zp : Byte)
  | lsrAcc
  | lsrAbs (addr : Addr)
  | lsrZpX (zp : Byte)
  | lsrAbsX (addr : Addr)
  -- ROL (R125)
  | rolZp (zp : Byte)
  | rolAcc
  | rolAbs (addr : Addr)
  | rolZpX (zp : Byte)
  | rolAbsX (addr : Addr)
  -- ROR (R126)
  | rorZp (zp : Byte)
  | rorAcc
  | rorAbs (addr : Addr)
  | rorZpX (zp : Byte)
  | rorAbsX (addr : Addr)
  -- CLC (R127)
  | clc
  -- SEC (R128)
  | sec
  -- CLI (R129)
  | cli
  -- SEI (R130)
  | sei
  -- CLD (R131)
  | cld
  -- SED (R132)
  | sed
  -- CLV (R133)
  | clv
  -- PHA (R134)
  | pha
  -- PHP (R135)
  | php
  -- PLA (R136)
  | pla
  -- PLP (R137)
  | plp
  -- JMP (R139)
  | jmpAbs (addr : Addr)
  | jmpInd (addr : Addr)
  -- JSR (R141)
  | jsr (addr : Addr)
  -- RTS (R142)
  | rts
  -- RTI (R143)
  | rti
  -- BPL (R145)
  | bpl (rel : Byte)
  -- BMI (R146)
  | bmi (rel : Byte)
  -- BVC (R147)
  | bvc (rel : Byte)
  -- BVS (R148)
  | bvs (rel : Byte)
  -- BCC (R149)
  | bcc (rel : Byte)
  -- BCS (R150)
  | bcs (rel : Byte)
  -- BNE (R151)
  | bne (rel : Byte)
  -- BEQ (R152)
  | beq (rel : Byte)
  -- BRK (R153)
  | brk
  -- NOP (R154)
  | nop
  deriving DecidableEq, Repr

end Sys2Proof
end

