-- ==== Sys2Proof/WellFormed.lean ====
section
/-! DEFINITION. Which spellings are instructions at all. A spelling is a mnemonic beside an operand, as an
assembler meets it (30_encoding.md R66). It is well formed when the opcode table has a row for it: when the rule of
the mnemonic lists the operand's form among its encodings. Every field of an operand fits the encoding by its type. -/

namespace Sys2Proof

/-- The form of an operand. -/
def Operand.form : Operand → Form
  | .immediate _ => .immediate
  | .zeroPage _ => .zeroPage
  | .zeroPageX _ => .zeroPageX
  | .zeroPageY _ => .zeroPageY
  | .absolute _ => .absolute
  | .absoluteX _ => .absoluteX
  | .absoluteY _ => .absoluteY
  | .indirectX _ => .indirectX
  | .indirectY _ => .indirectY
  | .implied => .implied
  | .accumulator => .accumulator
  | .relative _ => .relative
  | .absoluteTarget _ => .absoluteTarget
  | .indirectTarget _ => .indirectTarget

/-- The operand forms each mnemonic has (the "Encoding" lines of 41 to 48, R89 to R154). -/
def Mnemonic.forms : Mnemonic → List Form
  | .LDA | .ADC | .SBC | .AND | .ORA | .EOR | .CMP =>
    [.immediate, .zeroPage, .zeroPageX, .absolute, .absoluteX, .absoluteY, .indirectX, .indirectY]
  | .LDX =>
    [.immediate, .zeroPage, .zeroPageY, .absolute, .absoluteY]
  | .LDY =>
    [.immediate, .zeroPage, .zeroPageX, .absolute, .absoluteX]
  | .STA =>
    [.zeroPage, .zeroPageX, .absolute, .absoluteX, .absoluteY, .indirectX, .indirectY]
  | .STX =>
    [.zeroPage, .zeroPageY, .absolute]
  | .STY =>
    [.zeroPage, .zeroPageX, .absolute]
  | .TAX | .TAY | .TXA | .TYA | .TSX | .TXS | .INX | .INY | .DEX | .DEY | .CLC | .SEC | .CLI | .SEI | .CLD | .SED | .CLV | .PHA | .PHP | .PLA | .PLP | .RTS | .RTI | .BRK | .NOP =>
    [.implied]
  | .CPX | .CPY =>
    [.immediate, .zeroPage, .absolute]
  | .BIT =>
    [.zeroPage, .absolute]
  | .INC | .DEC =>
    [.zeroPage, .zeroPageX, .absolute, .absoluteX]
  | .ASL | .LSR | .ROL | .ROR =>
    [.zeroPage, .zeroPageX, .absolute, .absoluteX, .accumulator]
  | .JMP =>
    [.absoluteTarget, .indirectTarget]
  | .JSR =>
    [.absoluteTarget]
  | .BPL | .BMI | .BVC | .BVS | .BCC | .BCS | .BNE | .BEQ =>
    [.relative]

/-- A mnemonic beside an operand: what an assembler reads. -/
structure Spelling where
  mnemonic : Mnemonic
  operand  : Operand
  deriving DecidableEq, Repr

/-- The opcode table has a row for this spelling. -/
def Spelling.wellFormed (sp : Spelling) : Bool := sp.mnemonic.forms.contains sp.operand.form

end Sys2Proof
end

