-- ==== Sys2Proof/Decode.lean ====
section
/-! DEFINITION. Decoding and encoding (30_encoding.md). The opcode table is data, one row per opcode byte, in the
order of the map of R61; the decoder looks the first byte up in it (R56) and nothing else decides (R55). The encoder is
written from the other table of R61, the one listed by mnemonic. -/

namespace Sys2Proof

/-! ## Operand assembly (R59) -/

/-- `(h << 8) | l` (00_scope.md R8). -/
def word (h l : Byte) : Addr := h ++ l

/-- `v[7:0]`. -/
def loByte (v : Addr) : Byte := v.extractLsb' 0 8

/-- `v[15:8]`. -/
def hiByte (v : Addr) : Byte := v.extractLsb' 8 8

/-- `zext_16` (00_scope.md R9). -/
def zext16 (b : Byte) : Addr := b.setWidth 16

/-- `sext_16` (00_scope.md R9). -/
def sext16 (b : Byte) : Addr := b.signExtend 16

/-! ## What an instruction spells, and its opcode byte -/

/-- The mnemonic and the operand of an instruction. -/
def Instr.spelling : Instr → Spelling
  | .ldaIndX zp => ⟨.LDA, .indirectX zp⟩
  | .ldaZp zp => ⟨.LDA, .zeroPage zp⟩
  | .ldaImm imm => ⟨.LDA, .immediate imm⟩
  | .ldaAbs addr => ⟨.LDA, .absolute addr⟩
  | .ldaIndY zp => ⟨.LDA, .indirectY zp⟩
  | .ldaZpX zp => ⟨.LDA, .zeroPageX zp⟩
  | .ldaAbsY addr => ⟨.LDA, .absoluteY addr⟩
  | .ldaAbsX addr => ⟨.LDA, .absoluteX addr⟩
  | .ldxImm imm => ⟨.LDX, .immediate imm⟩
  | .ldxZp zp => ⟨.LDX, .zeroPage zp⟩
  | .ldxAbs addr => ⟨.LDX, .absolute addr⟩
  | .ldxZpY zp => ⟨.LDX, .zeroPageY zp⟩
  | .ldxAbsY addr => ⟨.LDX, .absoluteY addr⟩
  | .ldyImm imm => ⟨.LDY, .immediate imm⟩
  | .ldyZp zp => ⟨.LDY, .zeroPage zp⟩
  | .ldyAbs addr => ⟨.LDY, .absolute addr⟩
  | .ldyZpX zp => ⟨.LDY, .zeroPageX zp⟩
  | .ldyAbsX addr => ⟨.LDY, .absoluteX addr⟩
  | .staIndX zp => ⟨.STA, .indirectX zp⟩
  | .staZp zp => ⟨.STA, .zeroPage zp⟩
  | .staAbs addr => ⟨.STA, .absolute addr⟩
  | .staIndY zp => ⟨.STA, .indirectY zp⟩
  | .staZpX zp => ⟨.STA, .zeroPageX zp⟩
  | .staAbsY addr => ⟨.STA, .absoluteY addr⟩
  | .staAbsX addr => ⟨.STA, .absoluteX addr⟩
  | .stxZp zp => ⟨.STX, .zeroPage zp⟩
  | .stxAbs addr => ⟨.STX, .absolute addr⟩
  | .stxZpY zp => ⟨.STX, .zeroPageY zp⟩
  | .styZp zp => ⟨.STY, .zeroPage zp⟩
  | .styAbs addr => ⟨.STY, .absolute addr⟩
  | .styZpX zp => ⟨.STY, .zeroPageX zp⟩
  | .tax => ⟨.TAX, .implied⟩
  | .tay => ⟨.TAY, .implied⟩
  | .txa => ⟨.TXA, .implied⟩
  | .tya => ⟨.TYA, .implied⟩
  | .tsx => ⟨.TSX, .implied⟩
  | .txs => ⟨.TXS, .implied⟩
  | .adcIndX zp => ⟨.ADC, .indirectX zp⟩
  | .adcZp zp => ⟨.ADC, .zeroPage zp⟩
  | .adcImm imm => ⟨.ADC, .immediate imm⟩
  | .adcAbs addr => ⟨.ADC, .absolute addr⟩
  | .adcIndY zp => ⟨.ADC, .indirectY zp⟩
  | .adcZpX zp => ⟨.ADC, .zeroPageX zp⟩
  | .adcAbsY addr => ⟨.ADC, .absoluteY addr⟩
  | .adcAbsX addr => ⟨.ADC, .absoluteX addr⟩
  | .sbcIndX zp => ⟨.SBC, .indirectX zp⟩
  | .sbcZp zp => ⟨.SBC, .zeroPage zp⟩
  | .sbcImm imm => ⟨.SBC, .immediate imm⟩
  | .sbcAbs addr => ⟨.SBC, .absolute addr⟩
  | .sbcIndY zp => ⟨.SBC, .indirectY zp⟩
  | .sbcZpX zp => ⟨.SBC, .zeroPageX zp⟩
  | .sbcAbsY addr => ⟨.SBC, .absoluteY addr⟩
  | .sbcAbsX addr => ⟨.SBC, .absoluteX addr⟩
  | .andIndX zp => ⟨.AND, .indirectX zp⟩
  | .andZp zp => ⟨.AND, .zeroPage zp⟩
  | .andImm imm => ⟨.AND, .immediate imm⟩
  | .andAbs addr => ⟨.AND, .absolute addr⟩
  | .andIndY zp => ⟨.AND, .indirectY zp⟩
  | .andZpX zp => ⟨.AND, .zeroPageX zp⟩
  | .andAbsY addr => ⟨.AND, .absoluteY addr⟩
  | .andAbsX addr => ⟨.AND, .absoluteX addr⟩
  | .oraIndX zp => ⟨.ORA, .indirectX zp⟩
  | .oraZp zp => ⟨.ORA, .zeroPage zp⟩
  | .oraImm imm => ⟨.ORA, .immediate imm⟩
  | .oraAbs addr => ⟨.ORA, .absolute addr⟩
  | .oraIndY zp => ⟨.ORA, .indirectY zp⟩
  | .oraZpX zp => ⟨.ORA, .zeroPageX zp⟩
  | .oraAbsY addr => ⟨.ORA, .absoluteY addr⟩
  | .oraAbsX addr => ⟨.ORA, .absoluteX addr⟩
  | .eorIndX zp => ⟨.EOR, .indirectX zp⟩
  | .eorZp zp => ⟨.EOR, .zeroPage zp⟩
  | .eorImm imm => ⟨.EOR, .immediate imm⟩
  | .eorAbs addr => ⟨.EOR, .absolute addr⟩
  | .eorIndY zp => ⟨.EOR, .indirectY zp⟩
  | .eorZpX zp => ⟨.EOR, .zeroPageX zp⟩
  | .eorAbsY addr => ⟨.EOR, .absoluteY addr⟩
  | .eorAbsX addr => ⟨.EOR, .absoluteX addr⟩
  | .cmpIndX zp => ⟨.CMP, .indirectX zp⟩
  | .cmpZp zp => ⟨.CMP, .zeroPage zp⟩
  | .cmpImm imm => ⟨.CMP, .immediate imm⟩
  | .cmpAbs addr => ⟨.CMP, .absolute addr⟩
  | .cmpIndY zp => ⟨.CMP, .indirectY zp⟩
  | .cmpZpX zp => ⟨.CMP, .zeroPageX zp⟩
  | .cmpAbsY addr => ⟨.CMP, .absoluteY addr⟩
  | .cmpAbsX addr => ⟨.CMP, .absoluteX addr⟩
  | .cpxImm imm => ⟨.CPX, .immediate imm⟩
  | .cpxZp zp => ⟨.CPX, .zeroPage zp⟩
  | .cpxAbs addr => ⟨.CPX, .absolute addr⟩
  | .cpyImm imm => ⟨.CPY, .immediate imm⟩
  | .cpyZp zp => ⟨.CPY, .zeroPage zp⟩
  | .cpyAbs addr => ⟨.CPY, .absolute addr⟩
  | .bitZp zp => ⟨.BIT, .zeroPage zp⟩
  | .bitAbs addr => ⟨.BIT, .absolute addr⟩
  | .incZp zp => ⟨.INC, .zeroPage zp⟩
  | .incAbs addr => ⟨.INC, .absolute addr⟩
  | .incZpX zp => ⟨.INC, .zeroPageX zp⟩
  | .incAbsX addr => ⟨.INC, .absoluteX addr⟩
  | .decZp zp => ⟨.DEC, .zeroPage zp⟩
  | .decAbs addr => ⟨.DEC, .absolute addr⟩
  | .decZpX zp => ⟨.DEC, .zeroPageX zp⟩
  | .decAbsX addr => ⟨.DEC, .absoluteX addr⟩
  | .inx => ⟨.INX, .implied⟩
  | .iny => ⟨.INY, .implied⟩
  | .dex => ⟨.DEX, .implied⟩
  | .dey => ⟨.DEY, .implied⟩
  | .aslZp zp => ⟨.ASL, .zeroPage zp⟩
  | .aslAcc => ⟨.ASL, .accumulator⟩
  | .aslAbs addr => ⟨.ASL, .absolute addr⟩
  | .aslZpX zp => ⟨.ASL, .zeroPageX zp⟩
  | .aslAbsX addr => ⟨.ASL, .absoluteX addr⟩
  | .lsrZp zp => ⟨.LSR, .zeroPage zp⟩
  | .lsrAcc => ⟨.LSR, .accumulator⟩
  | .lsrAbs addr => ⟨.LSR, .absolute addr⟩
  | .lsrZpX zp => ⟨.LSR, .zeroPageX zp⟩
  | .lsrAbsX addr => ⟨.LSR, .absoluteX addr⟩
  | .rolZp zp => ⟨.ROL, .zeroPage zp⟩
  | .rolAcc => ⟨.ROL, .accumulator⟩
  | .rolAbs addr => ⟨.ROL, .absolute addr⟩
  | .rolZpX zp => ⟨.ROL, .zeroPageX zp⟩
  | .rolAbsX addr => ⟨.ROL, .absoluteX addr⟩
  | .rorZp zp => ⟨.ROR, .zeroPage zp⟩
  | .rorAcc => ⟨.ROR, .accumulator⟩
  | .rorAbs addr => ⟨.ROR, .absolute addr⟩
  | .rorZpX zp => ⟨.ROR, .zeroPageX zp⟩
  | .rorAbsX addr => ⟨.ROR, .absoluteX addr⟩
  | .clc => ⟨.CLC, .implied⟩
  | .sec => ⟨.SEC, .implied⟩
  | .cli => ⟨.CLI, .implied⟩
  | .sei => ⟨.SEI, .implied⟩
  | .cld => ⟨.CLD, .implied⟩
  | .sed => ⟨.SED, .implied⟩
  | .clv => ⟨.CLV, .implied⟩
  | .pha => ⟨.PHA, .implied⟩
  | .php => ⟨.PHP, .implied⟩
  | .pla => ⟨.PLA, .implied⟩
  | .plp => ⟨.PLP, .implied⟩
  | .jmpAbs addr => ⟨.JMP, .absoluteTarget addr⟩
  | .jmpInd addr => ⟨.JMP, .indirectTarget addr⟩
  | .jsr addr => ⟨.JSR, .absoluteTarget addr⟩
  | .rts => ⟨.RTS, .implied⟩
  | .rti => ⟨.RTI, .implied⟩
  | .bpl rel => ⟨.BPL, .relative rel⟩
  | .bmi rel => ⟨.BMI, .relative rel⟩
  | .bvc rel => ⟨.BVC, .relative rel⟩
  | .bvs rel => ⟨.BVS, .relative rel⟩
  | .bcc rel => ⟨.BCC, .relative rel⟩
  | .bcs rel => ⟨.BCS, .relative rel⟩
  | .bne rel => ⟨.BNE, .relative rel⟩
  | .beq rel => ⟨.BEQ, .relative rel⟩
  | .brk => ⟨.BRK, .implied⟩
  | .nop => ⟨.NOP, .implied⟩

/-- The row's mnemonic (R61). -/
def Instr.mnemonic (i : Instr) : Mnemonic := i.spelling.mnemonic

/-- The operand, assembled from the bytes after the opcode (R59). -/
def Instr.operand (i : Instr) : Operand := i.spelling.operand

/-- The row's operand form. -/
def Instr.form (i : Instr) : Form := i.operand.form

/-- A well-formed instruction spells a row of the table. -/
def Instr.wellFormed (i : Instr) : Bool := i.spelling.wellFormed

/-- The opcode byte (R61, the table by mnemonic). -/
def Instr.opcode : Instr → Byte
  | .ldaIndX _ => 0xA1
  | .ldaZp _ => 0xA5
  | .ldaImm _ => 0xA9
  | .ldaAbs _ => 0xAD
  | .ldaIndY _ => 0xB1
  | .ldaZpX _ => 0xB5
  | .ldaAbsY _ => 0xB9
  | .ldaAbsX _ => 0xBD
  | .ldxImm _ => 0xA2
  | .ldxZp _ => 0xA6
  | .ldxAbs _ => 0xAE
  | .ldxZpY _ => 0xB6
  | .ldxAbsY _ => 0xBE
  | .ldyImm _ => 0xA0
  | .ldyZp _ => 0xA4
  | .ldyAbs _ => 0xAC
  | .ldyZpX _ => 0xB4
  | .ldyAbsX _ => 0xBC
  | .staIndX _ => 0x81
  | .staZp _ => 0x85
  | .staAbs _ => 0x8D
  | .staIndY _ => 0x91
  | .staZpX _ => 0x95
  | .staAbsY _ => 0x99
  | .staAbsX _ => 0x9D
  | .stxZp _ => 0x86
  | .stxAbs _ => 0x8E
  | .stxZpY _ => 0x96
  | .styZp _ => 0x84
  | .styAbs _ => 0x8C
  | .styZpX _ => 0x94
  | .tax => 0xAA
  | .tay => 0xA8
  | .txa => 0x8A
  | .tya => 0x98
  | .tsx => 0xBA
  | .txs => 0x9A
  | .adcIndX _ => 0x61
  | .adcZp _ => 0x65
  | .adcImm _ => 0x69
  | .adcAbs _ => 0x6D
  | .adcIndY _ => 0x71
  | .adcZpX _ => 0x75
  | .adcAbsY _ => 0x79
  | .adcAbsX _ => 0x7D
  | .sbcIndX _ => 0xE1
  | .sbcZp _ => 0xE5
  | .sbcImm _ => 0xE9
  | .sbcAbs _ => 0xED
  | .sbcIndY _ => 0xF1
  | .sbcZpX _ => 0xF5
  | .sbcAbsY _ => 0xF9
  | .sbcAbsX _ => 0xFD
  | .andIndX _ => 0x21
  | .andZp _ => 0x25
  | .andImm _ => 0x29
  | .andAbs _ => 0x2D
  | .andIndY _ => 0x31
  | .andZpX _ => 0x35
  | .andAbsY _ => 0x39
  | .andAbsX _ => 0x3D
  | .oraIndX _ => 0x01
  | .oraZp _ => 0x05
  | .oraImm _ => 0x09
  | .oraAbs _ => 0x0D
  | .oraIndY _ => 0x11
  | .oraZpX _ => 0x15
  | .oraAbsY _ => 0x19
  | .oraAbsX _ => 0x1D
  | .eorIndX _ => 0x41
  | .eorZp _ => 0x45
  | .eorImm _ => 0x49
  | .eorAbs _ => 0x4D
  | .eorIndY _ => 0x51
  | .eorZpX _ => 0x55
  | .eorAbsY _ => 0x59
  | .eorAbsX _ => 0x5D
  | .cmpIndX _ => 0xC1
  | .cmpZp _ => 0xC5
  | .cmpImm _ => 0xC9
  | .cmpAbs _ => 0xCD
  | .cmpIndY _ => 0xD1
  | .cmpZpX _ => 0xD5
  | .cmpAbsY _ => 0xD9
  | .cmpAbsX _ => 0xDD
  | .cpxImm _ => 0xE0
  | .cpxZp _ => 0xE4
  | .cpxAbs _ => 0xEC
  | .cpyImm _ => 0xC0
  | .cpyZp _ => 0xC4
  | .cpyAbs _ => 0xCC
  | .bitZp _ => 0x24
  | .bitAbs _ => 0x2C
  | .incZp _ => 0xE6
  | .incAbs _ => 0xEE
  | .incZpX _ => 0xF6
  | .incAbsX _ => 0xFE
  | .decZp _ => 0xC6
  | .decAbs _ => 0xCE
  | .decZpX _ => 0xD6
  | .decAbsX _ => 0xDE
  | .inx => 0xE8
  | .iny => 0xC8
  | .dex => 0xCA
  | .dey => 0x88
  | .aslZp _ => 0x06
  | .aslAcc => 0x0A
  | .aslAbs _ => 0x0E
  | .aslZpX _ => 0x16
  | .aslAbsX _ => 0x1E
  | .lsrZp _ => 0x46
  | .lsrAcc => 0x4A
  | .lsrAbs _ => 0x4E
  | .lsrZpX _ => 0x56
  | .lsrAbsX _ => 0x5E
  | .rolZp _ => 0x26
  | .rolAcc => 0x2A
  | .rolAbs _ => 0x2E
  | .rolZpX _ => 0x36
  | .rolAbsX _ => 0x3E
  | .rorZp _ => 0x66
  | .rorAcc => 0x6A
  | .rorAbs _ => 0x6E
  | .rorZpX _ => 0x76
  | .rorAbsX _ => 0x7E
  | .clc => 0x18
  | .sec => 0x38
  | .cli => 0x58
  | .sei => 0x78
  | .cld => 0xD8
  | .sed => 0xF8
  | .clv => 0xB8
  | .pha => 0x48
  | .php => 0x08
  | .pla => 0x68
  | .plp => 0x28
  | .jmpAbs _ => 0x4C
  | .jmpInd _ => 0x6C
  | .jsr _ => 0x20
  | .rts => 0x60
  | .rti => 0x40
  | .bpl _ => 0x10
  | .bmi _ => 0x30
  | .bvc _ => 0x50
  | .bvs _ => 0x70
  | .bcc _ => 0x90
  | .bcs _ => 0xB0
  | .bne _ => 0xD0
  | .beq _ => 0xF0
  | .brk => 0x00
  | .nop => 0xEA

/-- The source's tag of an operand form: the five forms of R58 are all NoneAddressing. -/
def Form.mode : Form → AddressingMode
  | .immediate => .immediate
  | .zeroPage => .zeroPage
  | .zeroPageX => .zeroPageX
  | .zeroPageY => .zeroPageY
  | .absolute => .absolute
  | .absoluteX => .absoluteX
  | .absoluteY => .absoluteY
  | .indirectX => .indirectX
  | .indirectY => .indirectY
  | .accumulator => .noneAddressing
  | .implied => .noneAddressing
  | .relative => .noneAddressing
  | .absoluteTarget => .noneAddressing
  | .indirectTarget => .noneAddressing

/-- The number of operand bytes of a form (R57, R58). -/
def Form.width : Form → Nat
  | .implied | .accumulator => 0
  | .immediate | .zeroPage | .zeroPageX | .zeroPageY | .indirectX | .indirectY | .relative => 1
  | .absolute | .absoluteX | .absoluteY | .absoluteTarget | .indirectTarget => 2

/-- The operand width, length - 1: what the controller advances PC by after execution (R60). -/
def Instr.width (i : Instr) : Nat := i.form.width

/-- The instruction's length in bytes (R55). -/
def Instr.length (i : Instr) : Nat := 1 + i.width

/-- ControlTransfer (48_control.md R138): these write PC themselves. -/
def Mnemonic.isControlTransfer : Mnemonic → Bool
  | .JMP | .JSR | .RTS | .RTI | .BPL | .BMI | .BVC | .BVS | .BCC | .BCS | .BNE | .BEQ => true
  | .LDA | .LDX | .LDY | .STA | .STX | .STY | .TAX | .TAY | .TXA | .TYA | .TSX | .TXS
  | .ADC | .SBC | .AND | .ORA | .EOR | .CMP | .CPX | .CPY | .BIT | .INC | .DEC | .INX | .INY | .DEX | .DEY
  | .ASL | .LSR | .ROL | .ROR | .CLC | .SEC | .CLI | .SEI | .CLD | .SED | .CLV | .PHA | .PHP | .PLA | .PLP
  | .BRK | .NOP => false

/-- The instruction is one of ControlTransfer. -/
def Instr.isControlTransfer (i : Instr) : Bool := i.mnemonic.isControlTransfer

/-! ## The opcode table (R56, R61) -/

/-- An Opcode Descriptor beside the byte it belongs to: mnemonic, operand form, length, base cycle count (information
only, 70_reset_and_hazards.md R182), the profiles under which it executes (R65), and the instruction it stands for
given the two bytes after the opcode. -/
structure Row where
  opcode   : Byte
  mnemonic : Mnemonic
  form     : Form
  length   : Nat
  cycles   : Nat
  profiles : List ExecProfile
  build    : Byte → Byte → Instr

/-- Executes under both profiles. -/
def bothProfiles : List ExecProfile := [.sourceV7, .full]

/-- Executes under FULL only. -/
def fullOnly : List ExecProfile := [.full]

/-- A row of a one-byte instruction. -/
def Row.one (op : Byte) (m : Mnemonic) (f : Form) (cycles : Nat) (ps : List ExecProfile) (i : Instr) : Row :=
  ⟨op, m, f, 1, cycles, ps, fun _ _ => i⟩

/-- A row of a two-byte instruction: its operand is byte1. -/
def Row.two (op : Byte) (m : Mnemonic) (f : Form) (cycles : Nat) (ps : List ExecProfile) (mk : Byte → Instr) : Row :=
  ⟨op, m, f, 2, cycles, ps, fun b1 _ => mk b1⟩

/-- A row of a three-byte instruction: its operand is `(byte2 << 8) | byte1`. -/
def Row.three (op : Byte) (m : Mnemonic) (f : Form) (cycles : Nat) (ps : List ExecProfile) (mk : Addr → Instr) : Row :=
  ⟨op, m, f, 3, cycles, ps, fun b1 b2 => mk (word b2 b1)⟩

/-- Opcodes 0x00 to 0x0F. -/
def opcodeRow0 : List Row :=
  [.one 0x00 .BRK .implied 7 bothProfiles .brk,
   .two 0x01 .ORA .indirectX 6 fullOnly .oraIndX,
   .two 0x05 .ORA .zeroPage 3 fullOnly .oraZp,
   .two 0x06 .ASL .zeroPage 5 fullOnly .aslZp,
   .one 0x08 .PHP .implied 3 fullOnly .php,
   .two 0x09 .ORA .immediate 2 fullOnly .oraImm,
   .one 0x0A .ASL .accumulator 2 fullOnly .aslAcc,
   .three 0x0D .ORA .absolute 4 fullOnly .oraAbs,
   .three 0x0E .ASL .absolute 6 fullOnly .aslAbs]

/-- Opcodes 0x10 to 0x1F. -/
def opcodeRow1 : List Row :=
  [.two 0x10 .BPL .relative 2 fullOnly .bpl,
   .two 0x11 .ORA .indirectY 5 fullOnly .oraIndY,
   .two 0x15 .ORA .zeroPageX 4 fullOnly .oraZpX,
   .two 0x16 .ASL .zeroPageX 6 fullOnly .aslZpX,
   .one 0x18 .CLC .implied 2 fullOnly .clc,
   .three 0x19 .ORA .absoluteY 4 fullOnly .oraAbsY,
   .three 0x1D .ORA .absoluteX 4 fullOnly .oraAbsX,
   .three 0x1E .ASL .absoluteX 7 fullOnly .aslAbsX]

/-- Opcodes 0x20 to 0x2F. -/
def opcodeRow2 : List Row :=
  [.three 0x20 .JSR .absoluteTarget 6 fullOnly .jsr,
   .two 0x21 .AND .indirectX 6 fullOnly .andIndX,
   .two 0x24 .BIT .zeroPage 3 fullOnly .bitZp,
   .two 0x25 .AND .zeroPage 3 fullOnly .andZp,
   .two 0x26 .ROL .zeroPage 5 fullOnly .rolZp,
   .one 0x28 .PLP .implied 4 fullOnly .plp,
   .two 0x29 .AND .immediate 2 fullOnly .andImm,
   .one 0x2A .ROL .accumulator 2 fullOnly .rolAcc,
   .three 0x2C .BIT .absolute 4 fullOnly .bitAbs,
   .three 0x2D .AND .absolute 4 fullOnly .andAbs,
   .three 0x2E .ROL .absolute 6 fullOnly .rolAbs]

/-- Opcodes 0x30 to 0x3F. -/
def opcodeRow3 : List Row :=
  [.two 0x30 .BMI .relative 2 fullOnly .bmi,
   .two 0x31 .AND .indirectY 5 fullOnly .andIndY,
   .two 0x35 .AND .zeroPageX 4 fullOnly .andZpX,
   .two 0x36 .ROL .zeroPageX 6 fullOnly .rolZpX,
   .one 0x38 .SEC .implied 2 fullOnly .sec,
   .three 0x39 .AND .absoluteY 4 fullOnly .andAbsY,
   .three 0x3D .AND .absoluteX 4 fullOnly .andAbsX,
   .three 0x3E .ROL .absoluteX 7 fullOnly .rolAbsX]

/-- Opcodes 0x40 to 0x4F. -/
def opcodeRow4 : List Row :=
  [.one 0x40 .RTI .implied 6 fullOnly .rti,
   .two 0x41 .EOR .indirectX 6 fullOnly .eorIndX,
   .two 0x45 .EOR .zeroPage 3 fullOnly .eorZp,
   .two 0x46 .LSR .zeroPage 5 fullOnly .lsrZp,
   .one 0x48 .PHA .implied 3 fullOnly .pha,
   .two 0x49 .EOR .immediate 2 fullOnly .eorImm,
   .one 0x4A .LSR .accumulator 2 fullOnly .lsrAcc,
   .three 0x4C .JMP .absoluteTarget 3 fullOnly .jmpAbs,
   .three 0x4D .EOR .absolute 4 fullOnly .eorAbs,
   .three 0x4E .LSR .absolute 6 fullOnly .lsrAbs]

/-- Opcodes 0x50 to 0x5F. -/
def opcodeRow5 : List Row :=
  [.two 0x50 .BVC .relative 2 fullOnly .bvc,
   .two 0x51 .EOR .indirectY 5 fullOnly .eorIndY,
   .two 0x55 .EOR .zeroPageX 4 fullOnly .eorZpX,
   .two 0x56 .LSR .zeroPageX 6 fullOnly .lsrZpX,
   .one 0x58 .CLI .implied 2 fullOnly .cli,
   .three 0x59 .EOR .absoluteY 4 fullOnly .eorAbsY,
   .three 0x5D .EOR .absoluteX 4 fullOnly .eorAbsX,
   .three 0x5E .LSR .absoluteX 7 fullOnly .lsrAbsX]

/-- Opcodes 0x60 to 0x6F. -/
def opcodeRow6 : List Row :=
  [.one 0x60 .RTS .implied 6 fullOnly .rts,
   .two 0x61 .ADC .indirectX 6 fullOnly .adcIndX,
   .two 0x65 .ADC .zeroPage 3 fullOnly .adcZp,
   .two 0x66 .ROR .zeroPage 5 fullOnly .rorZp,
   .one 0x68 .PLA .implied 4 fullOnly .pla,
   .two 0x69 .ADC .immediate 2 fullOnly .adcImm,
   .one 0x6A .ROR .accumulator 2 fullOnly .rorAcc,
   .three 0x6C .JMP .indirectTarget 5 fullOnly .jmpInd,
   .three 0x6D .ADC .absolute 4 fullOnly .adcAbs,
   .three 0x6E .ROR .absolute 6 fullOnly .rorAbs]

/-- Opcodes 0x70 to 0x7F. -/
def opcodeRow7 : List Row :=
  [.two 0x70 .BVS .relative 2 fullOnly .bvs,
   .two 0x71 .ADC .indirectY 5 fullOnly .adcIndY,
   .two 0x75 .ADC .zeroPageX 4 fullOnly .adcZpX,
   .two 0x76 .ROR .zeroPageX 6 fullOnly .rorZpX,
   .one 0x78 .SEI .implied 2 fullOnly .sei,
   .three 0x79 .ADC .absoluteY 4 fullOnly .adcAbsY,
   .three 0x7D .ADC .absoluteX 4 fullOnly .adcAbsX,
   .three 0x7E .ROR .absoluteX 7 fullOnly .rorAbsX]

/-- Opcodes 0x80 to 0x8F. -/
def opcodeRow8 : List Row :=
  [.two 0x81 .STA .indirectX 6 fullOnly .staIndX,
   .two 0x84 .STY .zeroPage 3 fullOnly .styZp,
   .two 0x85 .STA .zeroPage 3 bothProfiles .staZp,
   .two 0x86 .STX .zeroPage 3 fullOnly .stxZp,
   .one 0x88 .DEY .implied 2 fullOnly .dey,
   .one 0x8A .TXA .implied 2 fullOnly .txa,
   .three 0x8C .STY .absolute 4 fullOnly .styAbs,
   .three 0x8D .STA .absolute 4 bothProfiles .staAbs,
   .three 0x8E .STX .absolute 4 fullOnly .stxAbs]

/-- Opcodes 0x90 to 0x9F. -/
def opcodeRow9 : List Row :=
  [.two 0x90 .BCC .relative 2 fullOnly .bcc,
   .two 0x91 .STA .indirectY 6 fullOnly .staIndY,
   .two 0x94 .STY .zeroPageX 4 fullOnly .styZpX,
   .two 0x95 .STA .zeroPageX 4 bothProfiles .staZpX,
   .two 0x96 .STX .zeroPageY 4 fullOnly .stxZpY,
   .one 0x98 .TYA .implied 2 fullOnly .tya,
   .three 0x99 .STA .absoluteY 5 bothProfiles .staAbsY,
   .one 0x9A .TXS .implied 2 fullOnly .txs,
   .three 0x9D .STA .absoluteX 5 bothProfiles .staAbsX]

/-- Opcodes 0xA0 to 0xAF. -/
def opcodeRowA : List Row :=
  [.two 0xA0 .LDY .immediate 2 bothProfiles .ldyImm,
   .two 0xA1 .LDA .indirectX 6 fullOnly .ldaIndX,
   .two 0xA2 .LDX .immediate 2 bothProfiles .ldxImm,
   .two 0xA4 .LDY .zeroPage 3 bothProfiles .ldyZp,
   .two 0xA5 .LDA .zeroPage 3 bothProfiles .ldaZp,
   .two 0xA6 .LDX .zeroPage 3 bothProfiles .ldxZp,
   .one 0xA8 .TAY .implied 2 fullOnly .tay,
   .two 0xA9 .LDA .immediate 2 bothProfiles .ldaImm,
   .one 0xAA .TAX .implied 2 bothProfiles .tax,
   .three 0xAC .LDY .absolute 4 bothProfiles .ldyAbs,
   .three 0xAD .LDA .absolute 4 bothProfiles .ldaAbs,
   .three 0xAE .LDX .absolute 4 bothProfiles .ldxAbs]

/-- Opcodes 0xB0 to 0xBF. -/
def opcodeRowB : List Row :=
  [.two 0xB0 .BCS .relative 2 fullOnly .bcs,
   .two 0xB1 .LDA .indirectY 5 fullOnly .ldaIndY,
   .two 0xB4 .LDY .zeroPageX 4 bothProfiles .ldyZpX,
   .two 0xB5 .LDA .zeroPageX 4 bothProfiles .ldaZpX,
   .two 0xB6 .LDX .zeroPageY 4 bothProfiles .ldxZpY,
   .one 0xB8 .CLV .implied 2 fullOnly .clv,
   .three 0xB9 .LDA .absoluteY 4 bothProfiles .ldaAbsY,
   .one 0xBA .TSX .implied 2 fullOnly .tsx,
   .three 0xBC .LDY .absoluteX 4 bothProfiles .ldyAbsX,
   .three 0xBD .LDA .absoluteX 4 bothProfiles .ldaAbsX,
   .three 0xBE .LDX .absoluteY 4 bothProfiles .ldxAbsY]

/-- Opcodes 0xC0 to 0xCF. -/
def opcodeRowC : List Row :=
  [.two 0xC0 .CPY .immediate 2 fullOnly .cpyImm,
   .two 0xC1 .CMP .indirectX 6 fullOnly .cmpIndX,
   .two 0xC4 .CPY .zeroPage 3 fullOnly .cpyZp,
   .two 0xC5 .CMP .zeroPage 3 fullOnly .cmpZp,
   .two 0xC6 .DEC .zeroPage 5 fullOnly .decZp,
   .one 0xC8 .INY .implied 2 fullOnly .iny,
   .two 0xC9 .CMP .immediate 2 fullOnly .cmpImm,
   .one 0xCA .DEX .implied 2 fullOnly .dex,
   .three 0xCC .CPY .absolute 4 fullOnly .cpyAbs,
   .three 0xCD .CMP .absolute 4 fullOnly .cmpAbs,
   .three 0xCE .DEC .absolute 6 fullOnly .decAbs]

/-- Opcodes 0xD0 to 0xDF. -/
def opcodeRowD : List Row :=
  [.two 0xD0 .BNE .relative 2 fullOnly .bne,
   .two 0xD1 .CMP .indirectY 5 fullOnly .cmpIndY,
   .two 0xD5 .CMP .zeroPageX 4 fullOnly .cmpZpX,
   .two 0xD6 .DEC .zeroPageX 6 fullOnly .decZpX,
   .one 0xD8 .CLD .implied 2 fullOnly .cld,
   .three 0xD9 .CMP .absoluteY 4 fullOnly .cmpAbsY,
   .three 0xDD .CMP .absoluteX 4 fullOnly .cmpAbsX,
   .three 0xDE .DEC .absoluteX 7 fullOnly .decAbsX]

/-- Opcodes 0xE0 to 0xEF. -/
def opcodeRowE : List Row :=
  [.two 0xE0 .CPX .immediate 2 fullOnly .cpxImm,
   .two 0xE1 .SBC .indirectX 6 fullOnly .sbcIndX,
   .two 0xE4 .CPX .zeroPage 3 fullOnly .cpxZp,
   .two 0xE5 .SBC .zeroPage 3 fullOnly .sbcZp,
   .two 0xE6 .INC .zeroPage 5 fullOnly .incZp,
   .one 0xE8 .INX .implied 2 fullOnly .inx,
   .two 0xE9 .SBC .immediate 2 fullOnly .sbcImm,
   .one 0xEA .NOP .implied 2 fullOnly .nop,
   .three 0xEC .CPX .absolute 4 fullOnly .cpxAbs,
   .three 0xED .SBC .absolute 4 fullOnly .sbcAbs,
   .three 0xEE .INC .absolute 6 fullOnly .incAbs]

/-- Opcodes 0xF0 to 0xFF. -/
def opcodeRowF : List Row :=
  [.two 0xF0 .BEQ .relative 2 fullOnly .beq,
   .two 0xF1 .SBC .indirectY 5 fullOnly .sbcIndY,
   .two 0xF5 .SBC .zeroPageX 4 fullOnly .sbcZpX,
   .two 0xF6 .INC .zeroPageX 6 fullOnly .incZpX,
   .one 0xF8 .SED .implied 2 fullOnly .sed,
   .three 0xF9 .SBC .absoluteY 4 fullOnly .sbcAbsY,
   .three 0xFD .SBC .absoluteX 4 fullOnly .sbcAbsX,
   .three 0xFE .INC .absoluteX 7 fullOnly .incAbsX]

/-- The map of R61: one list per high nibble of the opcode byte. -/
def opcodeMap : List (List Row) :=
  [opcodeRow0, opcodeRow1, opcodeRow2, opcodeRow3, opcodeRow4, opcodeRow5, opcodeRow6, opcodeRow7,
   opcodeRow8, opcodeRow9, opcodeRowA, opcodeRowB, opcodeRowC, opcodeRowD, opcodeRowE, opcodeRowF]

/-- The 151 rows of R61. -/
def opcodeTable : List Row := opcodeMap.flatten

/-- The descriptor of an opcode byte, or none for the 105 bytes that have no entry (R63). -/
def lookup (op : Byte) : Option Row := (opcodeMap.getD (op.toNat / 16) []).find? (fun r => r.opcode == op)

/-- The row of an instruction executes under the profile (R65, R71). -/
def Instr.executesUnder (i : Instr) (p : ExecProfile) : Bool :=
  match lookup i.opcode with
  | some r => r.profiles.contains p
  | none => false

/-! ## Decoding and encoding -/

/-- The instruction whose opcode byte is `op` and whose next two bytes are `b1` and `b2`; none when the opcode byte has
no entry (R63). Bytes past the instruction's length do not matter (R55). -/
def decodeBytes (op b1 b2 : Byte) : Option Instr := (lookup op).map (fun r => r.build b1 b2)

/-- What decoding a list of bytes gives. -/
inductive DecodeResult where
  /-- An instruction, and the bytes after it. -/
  | ok (i : Instr) (rest : List Byte)
  /-- The opcode byte has no entry in the table (R63). -/
  | unrecognizedOpcode (op : Byte)
  /-- The list ends inside the instruction. Never met by the controller, whose memory has no end (20_memory.md R42). -/
  | truncated
  deriving DecidableEq, Repr

/-- Decode the instruction at the head of a list of bytes. -/
def decode : List Byte → DecodeResult
  | [] => .truncated
  | op :: tl =>
    match lookup op with
    | none => .unrecognizedOpcode op
    | some r =>
      match r.length, tl with
      | 1, rest => .ok (r.build 0 0) rest
      | 2, b1 :: rest => .ok (r.build b1 0) rest
      | 3, b1 :: b2 :: rest => .ok (r.build b1 b2) rest
      | _, _ => .truncated

/-- The operand's bytes, low byte first (R57 to R59). -/
def Operand.bytes : Operand → List Byte
  | .implied | .accumulator => []
  | .immediate b | .zeroPage b | .zeroPageX b | .zeroPageY b | .indirectX b | .indirectY b | .relative b => [b]
  | .absolute w | .absoluteX w | .absoluteY w | .absoluteTarget w | .indirectTarget w => [loByte w, hiByte w]

/-- The bytes of an instruction in the order of their addresses (R55). -/
def encode (i : Instr) : List Byte := i.opcode :: i.operand.bytes

/-- The instruction a spelling stands for: the row of its mnemonic and form, with its operand's bytes. -/
def assemble (sp : Spelling) : Option Instr :=
  (opcodeTable.find? (fun r => r.mnemonic = sp.mnemonic && r.form = sp.operand.form)).map fun r =>
    r.build (sp.operand.bytes.getD 0 0) (sp.operand.bytes.getD 1 0)

/-- Byte `k` of an instruction given as one number whose bit 0 is the least significant bit of the first byte, the bits
from `nbits` up being zero. -/
def tableByte (nbits w k : Nat) : Byte := BitVec.ofNat 8 ((w % 2 ^ nbits) / 2 ^ (8 * k))

/-- The instruction the decoder reads from the table's numbering of its bits. -/
def decodeTableWord (nbits w : Nat) : Option Instr :=
  match decode [tableByte nbits w 0, tableByte nbits w 1, tableByte nbits w 2] with
  | .ok i _ => some i
  | .unrecognizedOpcode _ => none
  | .truncated => none

end Sys2Proof
end

