-- ==== Sys2Proof/Machine/Memory.lean ====
section
/-! DEFINITION. The 64 KiB byte memory (20_memory.md) as a list of cells in one canonical form: addresses strictly
rising and below 65536, and no cell that holds what an unlisted address reads as. -/

namespace Sys2Proof.Machine

/-- The listed cells of memory, by rising address. -/
abbrev Memory := List Host.Cell

/-- What an unlisted address reads as. R49 leaves the contents of memory before the first `load` open (INIT_MEM).
DESIGN CHOICE (assumption 1): 0xFF, an opcode byte with no table entry, because 91_not_in_source.md N4 forbids assuming
that a jump into unloaded memory meets a 0x00 and halts. Unsafe: no claim may rest on it. Every INIT_MEM is a `Memory`. -/
def Memory.unlisted : Byte := 0xFF

/-- The byte at address `a` (R38). -/
def Memory.read : Memory → Nat → Byte
  | [], _ => Memory.unlisted
  | (k, v) :: m, a => if k = a then v else Memory.read m a

/-- The cells at other addresses than `a`. -/
def Memory.erase : Memory → Nat → Memory
  | [], _ => []
  | (k, v) :: m, a => if k = a then Memory.erase m a else (k, v) :: Memory.erase m a

/-- List the cell `(a, v)` before the first cell of a higher address. -/
def Memory.insert : Memory → Nat → Byte → Memory
  | [], a, v => [(a, v)]
  | (k, w) :: m, a, v => if a < k then (a, v) :: (k, w) :: m else (k, w) :: Memory.insert m a v

/-- Store `v` at address `a` (R39). -/
def Memory.write (m : Memory) (a : Nat) (v : Byte) : Memory :=
  if v = Memory.unlisted then m.erase a else (m.erase a).insert a v

/-- The canonical form of cells whose addresses are at least `lo`. -/
def Memory.wfFrom : Nat → Memory → Bool
  | _, [] => true
  | lo, (k, v) :: m => decide (lo ≤ k) && decide (k < 65536) && decide (v ≠ Memory.unlisted) && Memory.wfFrom (k + 1) m

/-- The canonical form: equal memories are equal lists. -/
def Memory.wf (m : Memory) : Bool := m.wfFrom 0

/-- `MemRead(addr, 2)`: low byte first, the high byte at `addr +16 1` (R40). -/
def Memory.readWord (m : Memory) (a : Addr) : Addr := word (m.read (a + 1).toNat) (m.read a.toNat)

/-- The reset vector's address (20_memory.md R47). -/
def resetVector : Addr := 0xFFFC

end Sys2Proof.Machine
end

