-- ==== Sys2Proof/Machine/State.lean ====
section
/-! DEFINITION. The state of the NERS CORE (10_state.md), the reasons a step can stop, and the state after reset. -/

namespace Sys2Proof.Machine

/-- The controller's mode (R32). -/
inductive Mode where
  | idle | running | halted | faulted
  deriving DecidableEq, Repr

/-- The three kinds of fatal error (60_exceptions.md R155). -/
inductive FaultKind where
  | unrecognizedOpcode | unimplementedOpcode | invalidAddressingUse
  deriving DecidableEq, Repr

/-- The fault record (R33): the kind, the opcode byte of the failing step, and the address it was read from. -/
structure FaultRecord where
  kind    : FaultKind
  opcode  : Byte
  fetchPc : Addr
  deriving DecidableEq, Repr

/-- Everything the spec gives the machine: the register file (R14), P (R21), memory (20_memory.md R37), the controller's
mode (R32) and the fault record (R33). `cfg` is the configuration layer (00_scope.md R13), held here so that `exec` and
`step` cover every parameter value; nothing writes it (assumption 3). -/
structure State where
  a           : Byte
  x           : Byte
  y           : Byte
  sp          : Byte
  p           : Byte
  pc          : Addr
  mem         : Memory
  mode        : Mode
  faultRecord : Option FaultRecord
  cfg         : Config
  deriving DecidableEq, Repr

/-- Why a step stops without a next state. -/
inductive Fault where
  /-- Raised by `step` in a mode other than Running, where no step is enabled (40_controller_resolver.md R74). Safe: the
  spec gives no transition there. The spec's three fatal errors are no such stop: they are taken as a next state whose
  mode is Faulted (60_exceptions.md R159). -/
  | noEnabledStep (m : Mode)
  deriving DecidableEq, Repr

/-- Why an instruction or a host operation is refused. -/
inductive Refusal where
  /-- Raised by an arm of `exec` whose instruction has no meaning yet. No arm is such. Safe. -/
  | notModelled (mnemonic : String)
  /-- Raised by the host operation `run` in the Idle mode (70_reset_and_hazards.md R179). Safe: the spec refuses it. -/
  | runWhileIdle
  /-- Raised by the host operation `run` in the Faulted mode (R179). Safe: the spec refuses it. -/
  | runWhileFaulted
  /-- Raised by the host operation `load` for more than 0x8000 bytes (R179). Safe: the spec refuses it. -/
  | programTooLong (length : Nat)
  deriving DecidableEq, Repr

/-- The open parameter INIT_REGS (00_scope.md R7). -/
structure InitRegs where
  a  : Byte
  x  : Byte
  y  : Byte
  sp : Byte
  p  : Byte
  pc : Addr
  deriving DecidableEq, Repr

/-- The state at power-on (70_reset_and_hazards.md R177): mode Idle, no fault record, the registers INIT_REGS and memory
INIT_MEM, both open. -/
def State.powerOn (cfg : Config) (r : InitRegs) (initMem : Memory) : State :=
  { a := r.a, x := r.x, y := r.y, sp := r.sp, p := r.p, pc := r.pc, mem := initMem, mode := .idle, faultRecord := none,
    cfg := cfg }

/-- The state right after `reset` (R35, 70_reset_and_hazards.md R174) of a power-on state whose memory lists nothing.
PC is the word that memory reads as at the reset vector (DESIGN CHOICE, assumptions 1 and 2). -/
def State.reset : State :=
  { a := 0x00, x := 0x00, y := 0x00, sp := 0xFD, p := 0x24, pc := Memory.readWord [] resetVector, mem := [],
    mode := .running, faultRecord := none, cfg := Config.ners }

end Sys2Proof.Machine
end

