-- ==== Sys2Proof/Machine/Flags.lean ====
section
/-! DEFINITION. The status byte P and every flag computation: the flags' places (10_state.md R21), SetNZ (R30), the
adder, the comparator (43_alu.md R101 to R103), the one-place shifts (45_shift.md R123 to R126), and P as the stack holds
it (47_stack.md R135, R137). -/

namespace Sys2Proof.Machine

/-- The eight flags of P, from bit 0 up (R21). -/
inductive Flag where
  | C | Z | I | D | BA | BB | V | N
  deriving DecidableEq, Repr

/-- The flag's bit of P (R21). -/
def Flag.bit : Flag → Nat
  | .C => 0
  | .Z => 1
  | .I => 2
  | .D => 3
  | .BA => 4
  | .BB => 5
  | .V => 6
  | .N => 7

/-- The byte whose one set bit is the flag's. -/
def Flag.mask (f : Flag) : Byte := BitVec.twoPow 8 f.bit

/-- `P.f`. -/
def getFlag (p : Byte) (f : Flag) : Bool := p.getLsbD f.bit

/-- `P.f <- b`. -/
def putFlag (p : Byte) (f : Flag) (b : Bool) : Byte := if b then p ||| f.mask else p &&& ~~~f.mask

/-- `SetNZ(r)` (R30). -/
def putNZ (p r : Byte) : Byte := putFlag (putFlag p .Z (r == 0x00)) .N (r.getLsbD 7)

/-- What the adder returns. -/
structure Sum where
  result   : Byte
  carry    : Bool
  overflow : Bool
  deriving DecidableEq, Repr

/-- `Add8(a, b, cin)` (43_alu.md R101). -/
def add8 (a b : Byte) (cin : Bool) : Sum :=
  let s := a.toNat + b.toNat + cin.toNat
  let r : Byte := BitVec.ofNat 8 s
  { result := r, carry := s.testBit 8, overflow := ((a ^^^ r) &&& (b ^^^ r)).getLsbD 7 }

/-- The flags ADC and SBC write: C, V, then Z and N from the result (R105, R106). -/
def putSum (p : Byte) (t : Sum) : Byte := putNZ (putFlag (putFlag p .C t.carry) .V t.overflow) t.result

/-- `Compare(r, m)` (R103): C is "no borrow", Z and N come from the modular difference. -/
def putCompare (p r m : Byte) : Byte := putNZ (putFlag p .C (decide (m.toNat ≤ r.toNat))) (r - m)

/-- The flags of BIT (R113): Z from A & M, N and V from bits 7 and 6 of M. -/
def putBitTest (p a m : Byte) : Byte :=
  putFlag (putFlag (putFlag p .Z ((a &&& m) == 0x00)) .N (m.getLsbD 7)) .V (m.getLsbD 6)

/-- A shift's result and the bit shifted out. -/
structure Shifted where
  result : Byte
  out    : Bool
  deriving DecidableEq, Repr

/-- ASL (45_shift.md R123). The carry in is not read. -/
def shiftAsl (v : Byte) (_c : Bool) : Shifted := ⟨v <<< 1, v.getLsbD 7⟩

/-- LSR (R124). The carry in is not read. -/
def shiftLsr (v : Byte) (_c : Bool) : Shifted := ⟨v >>> 1, v.getLsbD 0⟩

/-- ROL (R125). -/
def shiftRol (v : Byte) (c : Bool) : Shifted := ⟨(v <<< 1) ||| (if c then 0x01 else 0x00), v.getLsbD 7⟩

/-- ROR (R126). -/
def shiftRor (v : Byte) (c : Bool) : Shifted := ⟨(v >>> 1) ||| (if c then 0x80 else 0x00), v.getLsbD 0⟩

/-- The flags of a shift (R122): C the bit shifted out, Z and N from the result. -/
def putShifted (p : Byte) (t : Shifted) : Byte := putNZ (putFlag p .C t.out) t.result

/-- P as PHP pushes it (47_stack.md R135). -/
def statusToStack (p : Byte) : Byte := p ||| 0x30

/-- P as PLP and RTI load it from a pulled byte (47_stack.md R137): BA = 0, BB = 1. -/
def statusFromStack (b : Byte) : Byte := (b &&& 0xCF) ||| 0x20

end Sys2Proof.Machine
end

