-- ==== Sys2Proof/Machine/Ops.lean ====
section
/-! DEFINITION. The named operations over registers and memory (00_scope.md R10): register and flag accessors, byte and
word access, zero-page pointers, the stack, fetching an instruction's bytes, taking a fault and leaving it, and halting. -/

namespace Sys2Proof.Machine

/-- What a meaning, a step or a host operation answers. -/
abbrev Result := Host.Outcome State Fault Refusal

/-- The 8-bit registers that instructions name (10_state.md R14). -/
inductive Reg where
  | a | x | y | sp
  deriving DecidableEq, Repr

/-- A register's value (10_state.md R20). -/
def State.getReg (s : State) : Reg → Byte
  | .a => s.a
  | .x => s.x
  | .y => s.y
  | .sp => s.sp

/-- `R <- v`. -/
def State.setReg (s : State) (r : Reg) (v : Byte) : State :=
  match r with
  | .a => { s with a := v }
  | .x => { s with x := v }
  | .y => { s with y := v }
  | .sp => { s with sp := v }

/-- `PC <- v`. -/
def State.setPc (s : State) (v : Addr) : State := { s with pc := v }

/-- `P <- v`. -/
def State.setP (s : State) (v : Byte) : State := { s with p := v }

/-- `P.f`. -/
def State.flag (s : State) (f : Flag) : Bool := getFlag s.p f

/-- `P.f <- b`. -/
def State.setFlag (s : State) (f : Flag) (b : Bool) : State := s.setP (putFlag s.p f b)

/-- `SetNZ(r)` (10_state.md R30). -/
def State.setNZ (s : State) (r : Byte) : State := s.setP (putNZ s.p r)

/-! ## Memory (20_memory.md) -/

/-- `MemRead(addr, 1)` (R38). -/
def State.read (s : State) (a : Addr) : Byte := s.mem.read a.toNat

/-- `MemWrite(addr, 1, v)` (R39). -/
def State.write (s : State) (a : Addr) (v : Byte) : State := { s with mem := s.mem.write a.toNat v }

/-- `MemRead(addr, 2)` (R40). -/
def State.readWord (s : State) (a : Addr) : Addr := s.mem.readWord a

/-- `MemWrite(addr, 2, v)` (R41): the low byte first. -/
def State.writeWord (s : State) (a : Addr) (v : Addr) : State := (s.write a (loByte v)).write (a + 1) (hiByte v)

/-- `ZpRead16(z)` (R43): both bytes from page 0. -/
def State.zpRead16 (s : State) (z : Byte) : Addr := word (s.read (zext16 (z + 1))) (s.read (zext16 z))

/-! ## The stack (20_memory.md R48) -/

/-- `0x0100 | zext_16(SP)`. -/
def stackAddr (sp : Byte) : Addr := 0x0100 ||| zext16 sp

/-- `Push(v)`: write, then decrement. -/
def State.push (s : State) (v : Byte) : State := (s.write (stackAddr s.sp) v).setReg .sp (s.sp - 1)

/-- The byte that `Pull()` returns: read at the incremented SP. -/
def State.pulled (s : State) : Byte := s.read (stackAddr (s.sp + 1))

/-- The state that `Pull()` leaves. -/
def State.popped (s : State) : State := s.setReg .sp (s.sp + 1)

/-! ## Fetch (40_controller_resolver.md R69) -/

/-- The instruction at PC, decoded from the byte there and the two after it, wrapping past 0xFFFF (30_encoding.md R60). -/
def State.fetchInstr (s : State) : Option Instr := decodeBytes (s.read s.pc) (s.read (s.pc + 1)) (s.read (s.pc + 2))

/-- The state after the opcode fetch: PC is the address of the first operand byte. Instructions execute here. -/
def State.fetched (s : State) : State := s.setPc (s.pc + 1)

/-- `fetch_pc`, seen from the state after the opcode fetch. -/
def State.fetchPc (s : State) : Addr := s.pc - 1

/-! ## Ending a step early: a fault or a halt -/

/-- Taking a fault (60_exceptions.md R159), at the state after the opcode fetch: the mode becomes Faulted and holds the
record; nothing else changes. There is no vector, no saved context and no handler. -/
def raise (k : FaultKind) (op : Byte) (fetchPc : Addr) (s : State) : State :=
  { s with mode := .faulted, faultRecord := some ⟨k, op, fetchPc⟩ }

/-- Leaving the Faulted mode (60_exceptions.md R160): done by `load` and `reset` only. No instruction returns from a
fault. -/
def State.clearFault (s : State) : State := { s with mode := .running, faultRecord := none }

/-- `halt` (48_control.md R153). -/
def State.halt (s : State) : State := { s with mode := .halted }

/-- The numeric code of a fault kind (60_exceptions.md R155). -/
def FaultKind.code : FaultKind → Nat
  | .unrecognizedOpcode => 1
  | .unimplementedOpcode => 2
  | .invalidAddressingUse => 3

/-- The end of a step whose instruction has executed (R72): an instruction that is no control transfer has PC advanced by
its operand width. A halt or a fault has ended the step already (00_scope.md R10). -/
def finishStep (i : Instr) (s : State) : State :=
  if s.mode = .running ∧ i.isControlTransfer = false then s.setPc (s.pc + BitVec.ofNat 16 i.width) else s

/-- `DecimalCheck()` refuses (43_alu.md R114). -/
def State.decimalRefused (s : State) : Bool := decide (s.cfg.decimalMode = .refuse) && s.flag .D

end Sys2Proof.Machine
end

