-- ==== Sys2Proof/Machine/Operands.lean ====
section
/-! DEFINITION. The address resolver and the operand forms (40_controller_resolver.md R75 to R86). `resolve` is EA(mode)
as the spec writes it, reading the operand bytes at PC. `Operand.address` is the same for an operand that the decoder has
already assembled from those bytes; the meanings use it. -/

namespace Sys2Proof.Machine

/-- `EA(mode)` (R75 to R84), at the state after the opcode fetch. None is the InvalidAddressingUse of R85. -/
def resolve (m : AddressingMode) (s : State) : Option Addr :=
  match m with
  | .immediate => some s.pc
  | .zeroPage => some (zext16 (s.read s.pc))
  | .zeroPageX => some (zext16 (s.read s.pc + s.x))
  | .zeroPageY => some (zext16 (s.read s.pc + s.y))
  | .absolute => some (s.readWord s.pc)
  | .absoluteX => some (s.readWord s.pc + zext16 s.x)
  | .absoluteY => some (s.readWord s.pc + zext16 s.y)
  | .indirectX => some (s.zpRead16 (s.read s.pc + s.x))
  | .indirectY => some (s.zpRead16 (s.read s.pc) + zext16 s.y)
  | .noneAddressing => none

end Sys2Proof.Machine

namespace Sys2Proof

open Machine in
/-- The effective address of a decoded operand (R76 to R84); none for the five forms of NoneAddressing (R85). -/
def Operand.address (o : Operand) (s : State) : Option Addr :=
  match o with
  | .immediate _ => some s.pc
  | .zeroPage zp => some (zext16 zp)
  | .zeroPageX zp => some (zext16 (zp + s.x))
  | .zeroPageY zp => some (zext16 (zp + s.y))
  | .absolute addr => some addr
  | .absoluteX addr => some (addr + zext16 s.x)
  | .absoluteY addr => some (addr + zext16 s.y)
  | .indirectX zp => some (s.zpRead16 (zp + s.x))
  | .indirectY zp => some (s.zpRead16 zp + zext16 s.y)
  | .implied => none
  | .accumulator => none
  | .relative _ => none
  | .absoluteTarget _ => none
  | .indirectTarget _ => none

open Machine in
/-- `M = MemRead(EA(mode), 1)` (R86). The byte at EA(Immediate) = PC is the literal operand byte itself. -/
def Operand.value (o : Operand) (s : State) : Option Byte :=
  match o with
  | .immediate imm => some imm
  | o => (o.address s).map s.read

end Sys2Proof

namespace Sys2Proof.Machine

/-- The body of an instruction that reads M. Without a memory mode it is the InvalidAddressingUse of 60_exceptions.md R158,
which no instruction reaches. -/
def withValue (i : Instr) (s : State) (k : Byte → State) : Result :=
  match i.operand.value s with
  | some m => .next (k m)
  | none => .next (raise .invalidAddressingUse i.opcode s.fetchPc s)

/-- The body of an instruction that works at EA(mode), computed once (R86). -/
def withAddress (i : Instr) (s : State) (k : Addr → State) : Result :=
  match i.operand.address s with
  | some ea => .next (k ea)
  | none => .next (raise .invalidAddressingUse i.opcode s.fetchPc s)

/-- A read-modify-write (20_memory.md R46): one read, one write of the result at the same address, then SetNZ. -/
def readModifyWrite (f : Byte → Byte) (i : Instr) (s : State) : Result :=
  withAddress i s fun ea => (s.write ea (f (s.read ea))).setNZ (f (s.read ea))

end Sys2Proof.Machine
end

