-- ==== Sys2Proof/Machine/Alu.lean ====
section
/-! DEFINITION. Arithmetic, logic, compare and bit test (43_alu.md R101 to R115). -/

namespace Sys2Proof.Machine

/-- `A <- r; P.C <- c; P.V <- v; SetNZ(A)` for what the adder returned (R105, R106). -/
def State.setSum (s : State) (t : Sum) : State := (s.setReg .a t.result).setP (putSum s.p t)

/-- A refused decimal operation (R114) raises UnimplementedOpcode before anything is written. -/
def State.orDecimalFault (s : State) (i : Instr) (t : State) : State :=
  if s.decimalRefused then raise .unimplementedOpcode i.opcode s.fetchPc s else t

/-- ADC (R105): A + M + C. -/
def adc (i : Instr) (s : State) : Result :=
  withValue i s fun m => s.orDecimalFault i (s.setSum (add8 s.a m (s.flag .C)))

/-- SBC (R106): A - M - (1 - C), as A + ~M + C. -/
def sbc (i : Instr) (s : State) : Result :=
  withValue i s fun m => s.orDecimalFault i (s.setSum (add8 s.a (~~~m) (s.flag .C)))

/-- `A <- A op M; SetNZ(A)` (R104, R107 to R109). -/
def logic (f : Byte → Byte → Byte) (i : Instr) (s : State) : Result :=
  withValue i s fun m => (s.setReg .a (f s.a m)).setNZ (f s.a m)

/-- `Compare(R, M)` (R103, R110 to R112). -/
def compareReg (r : Reg) (i : Instr) (s : State) : Result := withValue i s fun m => s.setP (putCompare s.p (s.getReg r) m)

/-- BIT (R113). -/
def bitTest (i : Instr) (s : State) : Result := withValue i s fun m => s.setP (putBitTest s.p s.a m)

/-- ADC (zp,X) (R105): 0x61. -/
def execAdcIndX (zp : Byte) (s : State) : Result := adc (.adcIndX zp) s

/-- ADC zp (R105): 0x65. -/
def execAdcZp (zp : Byte) (s : State) : Result := adc (.adcZp zp) s

/-- ADC # (R105): 0x69. -/
def execAdcImm (imm : Byte) (s : State) : Result := adc (.adcImm imm) s

/-- ADC abs (R105): 0x6D. -/
def execAdcAbs (addr : Addr) (s : State) : Result := adc (.adcAbs addr) s

/-- ADC (zp),Y (R105): 0x71. -/
def execAdcIndY (zp : Byte) (s : State) : Result := adc (.adcIndY zp) s

/-- ADC zp,X (R105): 0x75. -/
def execAdcZpX (zp : Byte) (s : State) : Result := adc (.adcZpX zp) s

/-- ADC abs,Y (R105): 0x79. -/
def execAdcAbsY (addr : Addr) (s : State) : Result := adc (.adcAbsY addr) s

/-- ADC abs,X (R105): 0x7D. -/
def execAdcAbsX (addr : Addr) (s : State) : Result := adc (.adcAbsX addr) s

/-- SBC (zp,X) (R106): 0xE1. -/
def execSbcIndX (zp : Byte) (s : State) : Result := sbc (.sbcIndX zp) s

/-- SBC zp (R106): 0xE5. -/
def execSbcZp (zp : Byte) (s : State) : Result := sbc (.sbcZp zp) s

/-- SBC # (R106): 0xE9. -/
def execSbcImm (imm : Byte) (s : State) : Result := sbc (.sbcImm imm) s

/-- SBC abs (R106): 0xED. -/
def execSbcAbs (addr : Addr) (s : State) : Result := sbc (.sbcAbs addr) s

/-- SBC (zp),Y (R106): 0xF1. -/
def execSbcIndY (zp : Byte) (s : State) : Result := sbc (.sbcIndY zp) s

/-- SBC zp,X (R106): 0xF5. -/
def execSbcZpX (zp : Byte) (s : State) : Result := sbc (.sbcZpX zp) s

/-- SBC abs,Y (R106): 0xF9. -/
def execSbcAbsY (addr : Addr) (s : State) : Result := sbc (.sbcAbsY addr) s

/-- SBC abs,X (R106): 0xFD. -/
def execSbcAbsX (addr : Addr) (s : State) : Result := sbc (.sbcAbsX addr) s

/-- AND (zp,X) (R107): 0x21. -/
def execAndIndX (zp : Byte) (s : State) : Result := logic (· &&& ·) (.andIndX zp) s

/-- AND zp (R107): 0x25. -/
def execAndZp (zp : Byte) (s : State) : Result := logic (· &&& ·) (.andZp zp) s

/-- AND # (R107): 0x29. -/
def execAndImm (imm : Byte) (s : State) : Result := logic (· &&& ·) (.andImm imm) s

/-- AND abs (R107): 0x2D. -/
def execAndAbs (addr : Addr) (s : State) : Result := logic (· &&& ·) (.andAbs addr) s

/-- AND (zp),Y (R107): 0x31. -/
def execAndIndY (zp : Byte) (s : State) : Result := logic (· &&& ·) (.andIndY zp) s

/-- AND zp,X (R107): 0x35. -/
def execAndZpX (zp : Byte) (s : State) : Result := logic (· &&& ·) (.andZpX zp) s

/-- AND abs,Y (R107): 0x39. -/
def execAndAbsY (addr : Addr) (s : State) : Result := logic (· &&& ·) (.andAbsY addr) s

/-- AND abs,X (R107): 0x3D. -/
def execAndAbsX (addr : Addr) (s : State) : Result := logic (· &&& ·) (.andAbsX addr) s

/-- ORA (zp,X) (R108): 0x01. -/
def execOraIndX (zp : Byte) (s : State) : Result := logic (· ||| ·) (.oraIndX zp) s

/-- ORA zp (R108): 0x05. -/
def execOraZp (zp : Byte) (s : State) : Result := logic (· ||| ·) (.oraZp zp) s

/-- ORA # (R108): 0x09. -/
def execOraImm (imm : Byte) (s : State) : Result := logic (· ||| ·) (.oraImm imm) s

/-- ORA abs (R108): 0x0D. -/
def execOraAbs (addr : Addr) (s : State) : Result := logic (· ||| ·) (.oraAbs addr) s

/-- ORA (zp),Y (R108): 0x11. -/
def execOraIndY (zp : Byte) (s : State) : Result := logic (· ||| ·) (.oraIndY zp) s

/-- ORA zp,X (R108): 0x15. -/
def execOraZpX (zp : Byte) (s : State) : Result := logic (· ||| ·) (.oraZpX zp) s

/-- ORA abs,Y (R108): 0x19. -/
def execOraAbsY (addr : Addr) (s : State) : Result := logic (· ||| ·) (.oraAbsY addr) s

/-- ORA abs,X (R108): 0x1D. -/
def execOraAbsX (addr : Addr) (s : State) : Result := logic (· ||| ·) (.oraAbsX addr) s

/-- EOR (zp,X) (R109): 0x41. -/
def execEorIndX (zp : Byte) (s : State) : Result := logic (· ^^^ ·) (.eorIndX zp) s

/-- EOR zp (R109): 0x45. -/
def execEorZp (zp : Byte) (s : State) : Result := logic (· ^^^ ·) (.eorZp zp) s

/-- EOR # (R109): 0x49. -/
def execEorImm (imm : Byte) (s : State) : Result := logic (· ^^^ ·) (.eorImm imm) s

/-- EOR abs (R109): 0x4D. -/
def execEorAbs (addr : Addr) (s : State) : Result := logic (· ^^^ ·) (.eorAbs addr) s

/-- EOR (zp),Y (R109): 0x51. -/
def execEorIndY (zp : Byte) (s : State) : Result := logic (· ^^^ ·) (.eorIndY zp) s

/-- EOR zp,X (R109): 0x55. -/
def execEorZpX (zp : Byte) (s : State) : Result := logic (· ^^^ ·) (.eorZpX zp) s

/-- EOR abs,Y (R109): 0x59. -/
def execEorAbsY (addr : Addr) (s : State) : Result := logic (· ^^^ ·) (.eorAbsY addr) s

/-- EOR abs,X (R109): 0x5D. -/
def execEorAbsX (addr : Addr) (s : State) : Result := logic (· ^^^ ·) (.eorAbsX addr) s

/-- CMP (zp,X) (R110): 0xC1. -/
def execCmpIndX (zp : Byte) (s : State) : Result := compareReg .a (.cmpIndX zp) s

/-- CMP zp (R110): 0xC5. -/
def execCmpZp (zp : Byte) (s : State) : Result := compareReg .a (.cmpZp zp) s

/-- CMP # (R110): 0xC9. -/
def execCmpImm (imm : Byte) (s : State) : Result := compareReg .a (.cmpImm imm) s

/-- CMP abs (R110): 0xCD. -/
def execCmpAbs (addr : Addr) (s : State) : Result := compareReg .a (.cmpAbs addr) s

/-- CMP (zp),Y (R110): 0xD1. -/
def execCmpIndY (zp : Byte) (s : State) : Result := compareReg .a (.cmpIndY zp) s

/-- CMP zp,X (R110): 0xD5. -/
def execCmpZpX (zp : Byte) (s : State) : Result := compareReg .a (.cmpZpX zp) s

/-- CMP abs,Y (R110): 0xD9. -/
def execCmpAbsY (addr : Addr) (s : State) : Result := compareReg .a (.cmpAbsY addr) s

/-- CMP abs,X (R110): 0xDD. -/
def execCmpAbsX (addr : Addr) (s : State) : Result := compareReg .a (.cmpAbsX addr) s

/-- CPX # (R111): 0xE0. -/
def execCpxImm (imm : Byte) (s : State) : Result := compareReg .x (.cpxImm imm) s

/-- CPX zp (R111): 0xE4. -/
def execCpxZp (zp : Byte) (s : State) : Result := compareReg .x (.cpxZp zp) s

/-- CPX abs (R111): 0xEC. -/
def execCpxAbs (addr : Addr) (s : State) : Result := compareReg .x (.cpxAbs addr) s

/-- CPY # (R112): 0xC0. -/
def execCpyImm (imm : Byte) (s : State) : Result := compareReg .y (.cpyImm imm) s

/-- CPY zp (R112): 0xC4. -/
def execCpyZp (zp : Byte) (s : State) : Result := compareReg .y (.cpyZp zp) s

/-- CPY abs (R112): 0xCC. -/
def execCpyAbs (addr : Addr) (s : State) : Result := compareReg .y (.cpyAbs addr) s

/-- BIT zp (R113): 0x24. -/
def execBitZp (zp : Byte) (s : State) : Result := bitTest (.bitZp zp) s

/-- BIT abs (R113): 0x2C. -/
def execBitAbs (addr : Addr) (s : State) : Result := bitTest (.bitAbs addr) s

end Sys2Proof.Machine
end

