-- ==== Sys2Proof/Machine/Control.lean ====
section
/-! DEFINITION. Control transfer, halt and NOP (48_control.md R138 to R154). PC is fetch_pc + 1 on entry. -/

namespace Sys2Proof.Machine

/-- The target that JMP indirect reads at `ptr` (R140): the high byte comes from the same page under NMOS_PAGE_WRAP, from
`ptr + 1` under LINEAR. -/
def State.indirectTarget (s : State) (ptr : Addr) : Addr :=
  match s.cfg.jmpIndWrap with
  | .nmosPageWrap => word (s.read ((ptr &&& 0xFF00) ||| ((ptr + 1) &&& 0x00FF))) (s.read ptr)
  | .linear => word (s.read (ptr + 1)) (s.read ptr)

/-- The target of a branch taken (R144): the address after the branch plus the sign-extended offset. -/
def State.branchTarget (s : State) (rel : Byte) : Addr := s.pc + 1 + sext16 rel

/-- `Branch(cond)` (R144). -/
def branch (cond : Bool) (rel : Byte) (s : State) : Result :=
  .next (s.setPc (if cond then s.branchTarget rel else s.pc + 1))

/-- JMP absolute (R139): 0x4C. -/
def execJmpAbs (addr : Addr) (s : State) : Result := .next (s.setPc addr)

/-- JMP indirect (R140): 0x6C. -/
def execJmpInd (addr : Addr) (s : State) : Result := .next (s.setPc (s.indirectTarget addr))

/-- JSR (R141): 0x20. It pushes the address of its own last byte, the high byte first. -/
def execJsr (addr : Addr) (s : State) : Result :=
  .next (((s.push (hiByte (s.pc + 1))).push (loByte (s.pc + 1))).setPc addr)

/-- RTS (R142): 0x60. It pulls the low byte, then the high byte, and adds 1. -/
def execRts (s : State) : Result := .next (s.popped.popped.setPc (word s.popped.pulled s.pulled + 1))

/-- RTI (R143): 0x40. It pulls P, then the low byte, then the high byte; no 1 is added. -/
def execRti (s : State) : Result :=
  .next ((s.popped.popped.popped.setP (statusFromStack s.pulled)).setPc (word s.popped.popped.pulled s.popped.pulled))

/-- BPL rel (R145): 0x10. -/
def execBpl (rel : Byte) (s : State) : Result := branch (s.flag .N == false) rel s

/-- BMI rel (R146): 0x30. -/
def execBmi (rel : Byte) (s : State) : Result := branch (s.flag .N == true) rel s

/-- BVC rel (R147): 0x50. -/
def execBvc (rel : Byte) (s : State) : Result := branch (s.flag .V == false) rel s

/-- BVS rel (R148): 0x70. -/
def execBvs (rel : Byte) (s : State) : Result := branch (s.flag .V == true) rel s

/-- BCC rel (R149): 0x90. -/
def execBcc (rel : Byte) (s : State) : Result := branch (s.flag .C == false) rel s

/-- BCS rel (R150): 0xB0. -/
def execBcs (rel : Byte) (s : State) : Result := branch (s.flag .C == true) rel s

/-- BNE rel (R151): 0xD0. -/
def execBne (rel : Byte) (s : State) : Result := branch (s.flag .Z == false) rel s

/-- BEQ rel (R152): 0xF0. -/
def execBeq (rel : Byte) (s : State) : Result := branch (s.flag .Z == true) rel s

/-- BRK (R153): 0x00. It halts the controller: it pushes nothing, sets no flag and reads no vector. -/
def execBrk (s : State) : Result := .next s.halt

/-- NOP (R154): 0xEA. -/
def execNop (s : State) : Result := .next s

end Sys2Proof.Machine
end

