-- ==== Sys2Proof/Machine/FlagOps.lean ====
section
/-! DEFINITION. The flag instructions (46_flag_ops.md R127 to R133): each writes the one flag it names. -/

namespace Sys2Proof.Machine

/-- CLC (R127): 0x18. -/
def execClc (s : State) : Result := .next (s.setFlag .C false)

/-- SEC (R128): 0x38. -/
def execSec (s : State) : Result := .next (s.setFlag .C true)

/-- CLI (R129): 0x58. -/
def execCli (s : State) : Result := .next (s.setFlag .I false)

/-- SEI (R130): 0x78. -/
def execSei (s : State) : Result := .next (s.setFlag .I true)

/-- CLD (R131): 0xD8. -/
def execCld (s : State) : Result := .next (s.setFlag .D false)

/-- SED (R132): 0xF8. -/
def execSed (s : State) : Result := .next (s.setFlag .D true)

/-- CLV (R133): 0xB8. -/
def execClv (s : State) : Result := .next (s.setFlag .V false)

end Sys2Proof.Machine
end

