-- ==== Sys2Proof/Machine/IncDec.lean ====
section
/-! DEFINITION. Increment and decrement (44_incdec.md R116 to R121). -/

namespace Sys2Proof.Machine

/-- `R <- f(R); SetNZ(R)` (R118 to R121). -/
def bump (r : Reg) (f : Byte → Byte) (s : State) : Result := .next ((s.setReg r (f (s.getReg r))).setNZ (f (s.getReg r)))

/-- INC zp (R116): 0xE6. -/
def execIncZp (zp : Byte) (s : State) : Result := readModifyWrite (· + 1) (.incZp zp) s

/-- INC abs (R116): 0xEE. -/
def execIncAbs (addr : Addr) (s : State) : Result := readModifyWrite (· + 1) (.incAbs addr) s

/-- INC zp,X (R116): 0xF6. -/
def execIncZpX (zp : Byte) (s : State) : Result := readModifyWrite (· + 1) (.incZpX zp) s

/-- INC abs,X (R116): 0xFE. -/
def execIncAbsX (addr : Addr) (s : State) : Result := readModifyWrite (· + 1) (.incAbsX addr) s

/-- DEC zp (R117): 0xC6. -/
def execDecZp (zp : Byte) (s : State) : Result := readModifyWrite (· - 1) (.decZp zp) s

/-- DEC abs (R117): 0xCE. -/
def execDecAbs (addr : Addr) (s : State) : Result := readModifyWrite (· - 1) (.decAbs addr) s

/-- DEC zp,X (R117): 0xD6. -/
def execDecZpX (zp : Byte) (s : State) : Result := readModifyWrite (· - 1) (.decZpX zp) s

/-- DEC abs,X (R117): 0xDE. -/
def execDecAbsX (addr : Addr) (s : State) : Result := readModifyWrite (· - 1) (.decAbsX addr) s

/-- INX (R118): 0xE8. -/
def execInx (s : State) : Result := bump .x (· + 1) s

/-- INY (R119): 0xC8. -/
def execIny (s : State) : Result := bump .y (· + 1) s

/-- DEX (R120): 0xCA. -/
def execDex (s : State) : Result := bump .x (· - 1) s

/-- DEY (R121): 0x88. -/
def execDey (s : State) : Result := bump .y (· - 1) s

end Sys2Proof.Machine
end

