-- ==== Sys2Proof/Machine/LoadStore.lean ====
section
/-! DEFINITION. Loads and stores (41_load_store.md R89 to R94). -/

namespace Sys2Proof.Machine

/-- `R <- MemRead(EA(mode), 1); SetNZ(R)` (R89 to R91). -/
def load (r : Reg) (i : Instr) (s : State) : Result := withValue i s fun m => (s.setReg r m).setNZ m

/-- `MemWrite(EA(mode), 1, R)` (R92 to R94); no flag is written. -/
def store (r : Reg) (i : Instr) (s : State) : Result := withAddress i s fun ea => s.write ea (s.getReg r)

/-- LDA (zp,X) (R89): 0xA1. -/
def execLdaIndX (zp : Byte) (s : State) : Result := load .a (.ldaIndX zp) s

/-- LDA zp (R89): 0xA5. -/
def execLdaZp (zp : Byte) (s : State) : Result := load .a (.ldaZp zp) s

/-- LDA # (R89): 0xA9. -/
def execLdaImm (imm : Byte) (s : State) : Result := load .a (.ldaImm imm) s

/-- LDA abs (R89): 0xAD. -/
def execLdaAbs (addr : Addr) (s : State) : Result := load .a (.ldaAbs addr) s

/-- LDA (zp),Y (R89): 0xB1. -/
def execLdaIndY (zp : Byte) (s : State) : Result := load .a (.ldaIndY zp) s

/-- LDA zp,X (R89): 0xB5. -/
def execLdaZpX (zp : Byte) (s : State) : Result := load .a (.ldaZpX zp) s

/-- LDA abs,Y (R89): 0xB9. -/
def execLdaAbsY (addr : Addr) (s : State) : Result := load .a (.ldaAbsY addr) s

/-- LDA abs,X (R89): 0xBD. -/
def execLdaAbsX (addr : Addr) (s : State) : Result := load .a (.ldaAbsX addr) s

/-- LDX # (R90): 0xA2. -/
def execLdxImm (imm : Byte) (s : State) : Result := load .x (.ldxImm imm) s

/-- LDX zp (R90): 0xA6. -/
def execLdxZp (zp : Byte) (s : State) : Result := load .x (.ldxZp zp) s

/-- LDX abs (R90): 0xAE. -/
def execLdxAbs (addr : Addr) (s : State) : Result := load .x (.ldxAbs addr) s

/-- LDX zp,Y (R90): 0xB6. -/
def execLdxZpY (zp : Byte) (s : State) : Result := load .x (.ldxZpY zp) s

/-- LDX abs,Y (R90): 0xBE. -/
def execLdxAbsY (addr : Addr) (s : State) : Result := load .x (.ldxAbsY addr) s

/-- LDY # (R91): 0xA0. -/
def execLdyImm (imm : Byte) (s : State) : Result := load .y (.ldyImm imm) s

/-- LDY zp (R91): 0xA4. -/
def execLdyZp (zp : Byte) (s : State) : Result := load .y (.ldyZp zp) s

/-- LDY abs (R91): 0xAC. -/
def execLdyAbs (addr : Addr) (s : State) : Result := load .y (.ldyAbs addr) s

/-- LDY zp,X (R91): 0xB4. -/
def execLdyZpX (zp : Byte) (s : State) : Result := load .y (.ldyZpX zp) s

/-- LDY abs,X (R91): 0xBC. -/
def execLdyAbsX (addr : Addr) (s : State) : Result := load .y (.ldyAbsX addr) s

/-- STA (zp,X) (R92): 0x81. -/
def execStaIndX (zp : Byte) (s : State) : Result := store .a (.staIndX zp) s

/-- STA zp (R92): 0x85. -/
def execStaZp (zp : Byte) (s : State) : Result := store .a (.staZp zp) s

/-- STA abs (R92): 0x8D. -/
def execStaAbs (addr : Addr) (s : State) : Result := store .a (.staAbs addr) s

/-- STA (zp),Y (R92): 0x91. -/
def execStaIndY (zp : Byte) (s : State) : Result := store .a (.staIndY zp) s

/-- STA zp,X (R92): 0x95. -/
def execStaZpX (zp : Byte) (s : State) : Result := store .a (.staZpX zp) s

/-- STA abs,Y (R92): 0x99. -/
def execStaAbsY (addr : Addr) (s : State) : Result := store .a (.staAbsY addr) s

/-- STA abs,X (R92): 0x9D. -/
def execStaAbsX (addr : Addr) (s : State) : Result := store .a (.staAbsX addr) s

/-- STX zp (R93): 0x86. -/
def execStxZp (zp : Byte) (s : State) : Result := store .x (.stxZp zp) s

/-- STX abs (R93): 0x8E. -/
def execStxAbs (addr : Addr) (s : State) : Result := store .x (.stxAbs addr) s

/-- STX zp,Y (R93): 0x96. -/
def execStxZpY (zp : Byte) (s : State) : Result := store .x (.stxZpY zp) s

/-- STY zp (R94): 0x84. -/
def execStyZp (zp : Byte) (s : State) : Result := store .y (.styZp zp) s

/-- STY abs (R94): 0x8C. -/
def execStyAbs (addr : Addr) (s : State) : Result := store .y (.styAbs addr) s

/-- STY zp,X (R94): 0x94. -/
def execStyZpX (zp : Byte) (s : State) : Result := store .y (.styZpX zp) s

end Sys2Proof.Machine
end

