-- ==== Sys2Proof/Machine/Shift.lean ====
section
/-! DEFINITION. Shifts and rotates (45_shift.md R122 to R126). -/

namespace Sys2Proof.Machine

/-- Operand selection (R122): in Accumulator form Src and Dst are A; in a memory form they are the cell at EA, read once
and written once. C takes the bit shifted out, Z and N come from the result. -/
def shift (f : Byte → Bool → Shifted) (i : Instr) (s : State) : Result :=
  match i.operand with
  | .accumulator => .next ((s.setReg .a (f s.a (s.flag .C)).result).setP (putShifted s.p (f s.a (s.flag .C))))
  | _ => withAddress i s fun ea =>
      (s.write ea (f (s.read ea) (s.flag .C)).result).setP (putShifted s.p (f (s.read ea) (s.flag .C)))

/-- ASL zp (R123): 0x06. -/
def execAslZp (zp : Byte) (s : State) : Result := shift shiftAsl (.aslZp zp) s

/-- ASL A (R123): 0x0A. -/
def execAslAcc (s : State) : Result := shift shiftAsl .aslAcc s

/-- ASL abs (R123): 0x0E. -/
def execAslAbs (addr : Addr) (s : State) : Result := shift shiftAsl (.aslAbs addr) s

/-- ASL zp,X (R123): 0x16. -/
def execAslZpX (zp : Byte) (s : State) : Result := shift shiftAsl (.aslZpX zp) s

/-- ASL abs,X (R123): 0x1E. -/
def execAslAbsX (addr : Addr) (s : State) : Result := shift shiftAsl (.aslAbsX addr) s

/-- LSR zp (R124): 0x46. -/
def execLsrZp (zp : Byte) (s : State) : Result := shift shiftLsr (.lsrZp zp) s

/-- LSR A (R124): 0x4A. -/
def execLsrAcc (s : State) : Result := shift shiftLsr .lsrAcc s

/-- LSR abs (R124): 0x4E. -/
def execLsrAbs (addr : Addr) (s : State) : Result := shift shiftLsr (.lsrAbs addr) s

/-- LSR zp,X (R124): 0x56. -/
def execLsrZpX (zp : Byte) (s : State) : Result := shift shiftLsr (.lsrZpX zp) s

/-- LSR abs,X (R124): 0x5E. -/
def execLsrAbsX (addr : Addr) (s : State) : Result := shift shiftLsr (.lsrAbsX addr) s

/-- ROL zp (R125): 0x26. -/
def execRolZp (zp : Byte) (s : State) : Result := shift shiftRol (.rolZp zp) s

/-- ROL A (R125): 0x2A. -/
def execRolAcc (s : State) : Result := shift shiftRol .rolAcc s

/-- ROL abs (R125): 0x2E. -/
def execRolAbs (addr : Addr) (s : State) : Result := shift shiftRol (.rolAbs addr) s

/-- ROL zp,X (R125): 0x36. -/
def execRolZpX (zp : Byte) (s : State) : Result := shift shiftRol (.rolZpX zp) s

/-- ROL abs,X (R125): 0x3E. -/
def execRolAbsX (addr : Addr) (s : State) : Result := shift shiftRol (.rolAbsX addr) s

/-- ROR zp (R126): 0x66. -/
def execRorZp (zp : Byte) (s : State) : Result := shift shiftRor (.rorZp zp) s

/-- ROR A (R126): 0x6A. -/
def execRorAcc (s : State) : Result := shift shiftRor .rorAcc s

/-- ROR abs (R126): 0x6E. -/
def execRorAbs (addr : Addr) (s : State) : Result := shift shiftRor (.rorAbs addr) s

/-- ROR zp,X (R126): 0x76. -/
def execRorZpX (zp : Byte) (s : State) : Result := shift shiftRor (.rorZpX zp) s

/-- ROR abs,X (R126): 0x7E. -/
def execRorAbsX (addr : Addr) (s : State) : Result := shift shiftRor (.rorAbsX addr) s

end Sys2Proof.Machine
end

