-- ==== Sys2Proof/Machine/Stack.lean ====
section
/-! DEFINITION. The stack instructions (47_stack.md R134 to R137). -/

namespace Sys2Proof.Machine

/-- PHA (R134): 0x48. `Push(A)`. -/
def execPha (s : State) : Result := .next (s.push s.a)

/-- PHP (R135): 0x08. `Push(P | 0x30)`; P itself is unchanged. -/
def execPhp (s : State) : Result := .next (s.push (statusToStack s.p))

/-- PLA (R136): 0x68. `A <- Pull(); SetNZ(A)`. -/
def execPla (s : State) : Result := .next ((s.popped.setReg .a s.pulled).setNZ s.pulled)

/-- PLP (R137): 0x28. `P <- (Pull() & 0xCF) | 0x20`, with no SetNZ (90_conflicts.md C4). -/
def execPlp (s : State) : Result := .next (s.popped.setP (statusFromStack s.pulled))

end Sys2Proof.Machine
end

