-- ==== Sys2Proof/Machine/Transfer.lean ====
section
/-! DEFINITION. Register transfers (42_transfer.md R95 to R100). -/

namespace Sys2Proof.Machine

/-- `dst <- src; SetNZ(dst)` (R95 to R99). -/
def transfer (src dst : Reg) (s : State) : Result := .next ((s.setReg dst (s.getReg src)).setNZ (s.getReg src))

/-- TAX (R95): 0xAA. -/
def execTax (s : State) : Result := transfer .a .x s

/-- TAY (R96): 0xA8. -/
def execTay (s : State) : Result := transfer .a .y s

/-- TXA (R97): 0x8A. -/
def execTxa (s : State) : Result := transfer .x .a s

/-- TYA (R98): 0x98. -/
def execTya (s : State) : Result := transfer .y .a s

/-- TSX (R99): 0xBA. -/
def execTsx (s : State) : Result := transfer .sp .x s

/-- TXS (R100): 0x9A. It sets no flag, although it is a transfer (90_conflicts.md C4). -/
def execTxs (s : State) : Result := .next (s.setReg .sp s.x)

end Sys2Proof.Machine
end

