-- ==== Sys2Proof/Machine/Controller.lean ====
section
/-! DEFINITION. The controller's step (40_controller_resolver.md R68 to R74) and the placing of an instruction. -/

namespace Sys2Proof.Machine

/-- The end of a step: `finishStep` on the state the instruction left. -/
def finishResult (i : Instr) : Result → Result
  | .next s => .next (finishStep i s)
  | .fault r => .fault r
  | .refused r => .refused r

/-- A step in the Running mode (R68): fetch, decode, check the profile, execute, advance. UnrecognizedOpcode comes before
UnimplementedOpcode (60_exceptions.md R161). -/
def runningStep (s : State) : Result :=
  match s.fetchInstr with
  | none => .next (raise .unrecognizedOpcode (s.read s.pc) s.pc s.fetched)
  | some i =>
    if i.executesUnder s.cfg.execProfile then finishResult i (exec i s.fetched)
    else .next (raise .unimplementedOpcode (s.read s.pc) s.pc s.fetched)

/-- `Step()` (R68). In a mode other than Running no step is enabled (R74). -/
def controllerStep (s : State) : Result :=
  match s.mode with
  | .running => runningStep s
  | .idle => .fault (.noEnabledStep .idle)
  | .halted => .fault (.noEnabledStep .halted)
  | .faulted => .fault (.noEnabledStep .faulted)

/-- The instruction whose bits are `w`, in the opcode table's numbering, stored at PC, with the controller Running. -/
def placeInstr (s : State) (nbits w : Nat) : State :=
  (((s.write s.pc (tableByte nbits w 0)).write (s.pc + 1) (tableByte nbits w 1)).write (s.pc + 2)
    (tableByte nbits w 2)).clearFault

end Sys2Proof.Machine
end

