-- ==== Sys2Proof/Machine/Step.lean ====
section
/-! DEFINITION. The step function and the placing of an instruction where it fetches, under the names the host knows. -/

namespace Sys2Proof.Machine

/-- One step of the machine (40_controller_resolver.md R68). -/
def step (s : State) : Host.Outcome State Fault Refusal := controllerStep s

/-- `s` with an instruction stored where `step` fetches next, and the Running mode that a step needs (assumption 7). -/
def State.withFetchWord (s : State) (nbits w : Nat) : State := placeInstr s nbits w

end Sys2Proof.Machine
end

