-- ==== Sys2Proof/Machine/Assembler.lean ====
section
/-! DEFINITION. How an instruction is written (30_encoding.md R66): the text of an instruction, numbers in the source's
`0x` style, and the rel8 byte of a branch to a label. Nothing in the machine reads this text. -/

namespace Sys2Proof

/-- The mnemonic as written. -/
def Mnemonic.text : Mnemonic → String
  | .LDA => "LDA"
  | .LDX => "LDX"
  | .LDY => "LDY"
  | .STA => "STA"
  | .STX => "STX"
  | .STY => "STY"
  | .TAX => "TAX"
  | .TAY => "TAY"
  | .TXA => "TXA"
  | .TYA => "TYA"
  | .TSX => "TSX"
  | .TXS => "TXS"
  | .ADC => "ADC"
  | .SBC => "SBC"
  | .AND => "AND"
  | .ORA => "ORA"
  | .EOR => "EOR"
  | .CMP => "CMP"
  | .CPX => "CPX"
  | .CPY => "CPY"
  | .BIT => "BIT"
  | .INC => "INC"
  | .DEC => "DEC"
  | .INX => "INX"
  | .INY => "INY"
  | .DEX => "DEX"
  | .DEY => "DEY"
  | .ASL => "ASL"
  | .LSR => "LSR"
  | .ROL => "ROL"
  | .ROR => "ROR"
  | .CLC => "CLC"
  | .SEC => "SEC"
  | .CLI => "CLI"
  | .SEI => "SEI"
  | .CLD => "CLD"
  | .SED => "SED"
  | .CLV => "CLV"
  | .PHA => "PHA"
  | .PHP => "PHP"
  | .PLA => "PLA"
  | .PLP => "PLP"
  | .JMP => "JMP"
  | .JSR => "JSR"
  | .RTS => "RTS"
  | .RTI => "RTI"
  | .BPL => "BPL"
  | .BMI => "BMI"
  | .BVC => "BVC"
  | .BVS => "BVS"
  | .BCC => "BCC"
  | .BCS => "BCS"
  | .BNE => "BNE"
  | .BEQ => "BEQ"
  | .BRK => "BRK"
  | .NOP => "NOP"

/-- A hexadecimal digit. -/
def hexDigit (n : Nat) : Char := ['0', '1', '2', '3', '4', '5', '6', '7', '8', '9', 'A', 'B', 'C', 'D', 'E', 'F'].getD n '0'

/-- `nn`: an 8-bit number. -/
def hexByte (b : Byte) : String := "0x" ++ String.ofList [hexDigit (b.toNat / 16), hexDigit (b.toNat % 16)]

/-- `nnnn`: a 16-bit number. -/
def hexWord (w : Addr) : String :=
  "0x" ++ String.ofList [hexDigit (w.toNat / 4096), hexDigit (w.toNat / 256 % 16), hexDigit (w.toNat / 16 % 16),
    hexDigit (w.toNat % 16)]

/-- The address a branch at `branch` goes to when it is taken (48_control.md R144). -/
def branchLabel (branch : Addr) (rel : Byte) : Addr := branch + 2 + sext16 rel

/-- `rel8 = label - (address of the branch + 2)`; none when that is not in -128 to 127. The difference is taken modulo
65536, as the address of the branch target is (R144). -/
def branchOffset (branch label : Addr) : Option Byte :=
  let d := (label - (branch + 2)).toInt
  if -128 ≤ d ∧ d ≤ 127 then some (BitVec.ofInt 8 d) else none

/-- The operand as written after the mnemonic, for an instruction at the address `at_`, on which the label of a branch
depends. -/
def Operand.text (at_ : Addr) : Operand → String
  | .immediate imm => " #" ++ hexByte imm
  | .zeroPage zp => " " ++ hexByte zp
  | .zeroPageX zp => " " ++ hexByte zp ++ ",X"
  | .zeroPageY zp => " " ++ hexByte zp ++ ",Y"
  | .absolute addr => " " ++ hexWord addr
  | .absoluteX addr => " " ++ hexWord addr ++ ",X"
  | .absoluteY addr => " " ++ hexWord addr ++ ",Y"
  | .indirectX zp => " (" ++ hexByte zp ++ ",X)"
  | .indirectY zp => " (" ++ hexByte zp ++ "),Y"
  | .accumulator => " A"
  | .implied => ""
  | .relative rel => " " ++ hexWord (branchLabel at_ rel)
  | .absoluteTarget addr => " " ++ hexWord addr
  | .indirectTarget addr => " (" ++ hexWord addr ++ ")"

/-- The instruction as written. -/
def Instr.text (i : Instr) (at_ : Addr) : String := i.mnemonic.text ++ i.operand.text at_

end Sys2Proof
end

