-- ==== Sys2Proof/Machine/HostOps.lean ====
section
/-! DEFINITION. The host operations (70_reset_and_hazards.md R172 to R179). Each is indivisible with respect to steps. -/

namespace Sys2Proof.Machine

/-- The load origin (20_memory.md R47). -/
def loadOrigin : Addr := 0x8000

/-- The longest program `load` takes (R173). -/
def maxProgramBytes : Nat := 0x8000

/-- `reset()` (R174), allowed in every mode. Memory is unchanged. -/
def State.hostReset (s : State) : State :=
  { s with a := 0x00, x := 0x00, y := 0x00, sp := 0xFD, p := 0x24, pc := s.readWord resetVector }.clearFault

/-- Copy bytes to rising addresses from `a`. -/
def State.copyBytes : State → Addr → List Byte → State
  | s, _, [] => s
  | s, a, b :: bs => State.copyBytes (s.write a b) (a + 1) bs

/-- The effect of `load(program)` (R173): the copy, then the vector, then PC and the mode. The registers other than PC
are unchanged. -/
def State.loaded (s : State) (program : List Byte) : State :=
  let t := s.copyBytes loadOrigin program
  ((if s.cfg.loadWritesVector then t.writeWord resetVector loadOrigin else t).setPc loadOrigin).clearFault

/-- `load(program)` (R173), refused for more than 0x8000 bytes (R179). -/
def hostLoad (program : List Byte) (s : State) : Result :=
  if program.length ≤ maxProgramBytes then .next (s.loaded program) else .refused (.programTooLong program.length)

/-- What `run` gives back, beside the state it leaves (R175). -/
inductive RunResult where
  /-- A halt: `run` returns normally. -/
  | ok (s : State)
  /-- A fatal error, with its record. -/
  | err (r : FaultRecord) (s : State)
  /-- An outcome of the executor, not of the hardware: the fuel ran out (R183). Not a halt. -/
  | outOfFuel (s : State)
  /-- The operation is refused and no state changes (R179). -/
  | refused (r : Refusal)
  /-- A step of the run had no next state. No run of a Running machine meets it. -/
  | stuck (s : State)
  deriving DecidableEq, Repr

/-- Repeat Step while the mode is Running (R73, R175), at most `fuel` times. -/
def runLoop : Nat → State → RunResult
  | 0, s => .outOfFuel s
  | fuel + 1, s =>
    match step s with
    | .next t =>
      match t.mode, t.faultRecord with
      | .running, _ => runLoop fuel t
      | .halted, _ => .ok t
      | .faulted, some r => .err r t
      | .faulted, none => .stuck t
      | .idle, _ => .stuck t
    | .fault _ => .stuck s
    | .refused _ => .stuck s

/-- `run()` (R175): refused in Idle and in Faulted (R179); from Halted it resumes at PC. -/
def hostRun (fuel : Nat) (s : State) : RunResult :=
  match s.mode with
  | .idle => .refused .runWhileIdle
  | .faulted => .refused .runWhileFaulted
  | .running => runLoop fuel s
  | .halted => runLoop fuel { s with mode := .running }

/-- `loadAndRun(program)` (R176): load, reset, run; refused where `load` is (assumption 12). -/
def hostLoadAndRun (fuel : Nat) (program : List Byte) (s : State) : RunResult :=
  match hostLoad program s with
  | .next t => hostRun fuel t.hostReset
  | .refused r => .refused r
  | .fault _ => .stuck s

/-- What the host reads between operations (10_state.md R36). -/
structure Observation where
  a  : Byte
  x  : Byte
  y  : Byte
  p  : Byte
  pc : Addr
  sp : Byte
  deriving DecidableEq, Repr

/-- Observation changes nothing (R172). -/
def State.observe (s : State) : Observation := ⟨s.a, s.x, s.y, s.p, s.pc, s.sp⟩

end Sys2Proof.Machine
end

