-- ==== Sys2Proof/Safety.lean ====
section
/-! DEFINITION. What the statements speak of: the machine's invariant, the flags an instruction sets, the cells it stores
to, the state a fault leaves, and how a run ends (60_exceptions.md R171). -/

namespace Sys2Proof

open Machine

/-- The flags of `p'` are those of `p` but for the listed ones, which have the listed values. All eight flags together
are the whole byte, so this determines `p'`. -/
def SetsFlags (p p' : Byte) (values : List (Flag × Bool)) : Prop :=
  ∀ f : Flag, getFlag p' f = (values.lookup f).getD (getFlag p f)

/-- The Z and N that an 8-bit result gives (10_state.md R30). -/
def resultFlags (r : Byte) : List (Flag × Bool) := [(.Z, decide (r.toNat = 0)), (.N, decide (128 ≤ r.toNat))]

/-- The addresses an instruction stores to, from the state it executes in: the effective address of a store or a
read-modify-write, the stack cells of PHA, PHP and JSR, and none for the rest. -/
def Instr.storedAddrs (i : Instr) (s : State) : List Addr :=
  match i.mnemonic with
  | .STA | .STX | .STY | .INC | .DEC | .ASL | .LSR | .ROL | .ROR => (i.operand.address s).toList
  | .PHA | .PHP => [stackAddr s.sp]
  | .JSR => [stackAddr s.sp, stackAddr (s.sp - 1)]
  | _ => []

/-- The cells an instruction stores to with the byte each then holds, address and byte from the state it executes in
(20_memory.md R53: it has read every operand and pointer byte before it stores). Each byte is written out from the rule
of the instruction (R92 to R94, R116, R117, R123 to R126, R134, R135, R141). -/
def Instr.storedBytes (i : Instr) (s : State) : List (Addr × Byte) :=
  let cell (f : Byte → Byte) : List (Addr × Byte) := (i.operand.address s).toList.map fun ea => (ea, f (s.read ea))
  match i.mnemonic with
  | .STA => cell fun _ => s.a
  | .STX => cell fun _ => s.x
  | .STY => cell fun _ => s.y
  | .INC => cell fun v => v + 1
  | .DEC => cell fun v => v - 1
  | .ASL => cell fun v => BitVec.ofNat 8 (2 * v.toNat)
  | .LSR => cell fun v => BitVec.ofNat 8 (v.toNat / 2)
  | .ROL => cell fun v => BitVec.ofNat 8 (2 * v.toNat + (s.flag .C).toNat)
  | .ROR => cell fun v => BitVec.ofNat 8 (v.toNat / 2 + 128 * (s.flag .C).toNat)
  | .PHA => [(stackAddr s.sp, s.a)]
  | .PHP => [(stackAddr s.sp, s.p ||| 0x30)]
  | .JSR => [(stackAddr s.sp, hiByte (s.pc + 1)), (stackAddr (s.sp - 1), loByte (s.pc + 1))]
  | _ => []

/-- The state a fault leaves (60_exceptions.md R159): the state before the step, with PC past the opcode byte, and the
record. -/
def faultedState (k : FaultKind) (s : State) : State :=
  { s with pc := s.pc + 1, mode := .faulted, faultRecord := some ⟨k, s.read s.pc, s.pc⟩ }

/-- Under SOURCE_V7, a step that meets the instruction raises UnimplementedOpcode (30_encoding.md R65). -/
def UnimplementedUnderV7 (i : Instr) : Prop :=
  ∀ s : State, s.mode = .running → s.cfg.execProfile = .sourceV7 → s.fetchInstr = some i →
    step s = .next (faultedState .unimplementedOpcode s)

/-- A state the machine can be in: memory in its canonical form, and a fault record exactly in the Faulted mode
(10_state.md R33). -/
abbrev Machine.State.Inv (s : State) : Prop :=
  s.mem.wf = true ∧ (s.mode = .faulted ↔ s.faultRecord.isSome = true)

/-- P.BA = 0 and P.BB = 1, as after every `reset` (10_state.md R26, R27). -/
abbrev Machine.State.BreakBitsFixed (s : State) : Prop := s.flag .BA = false ∧ s.flag .BB = true

/-- The run reaches a Halt outcome: "the program stops" (60_exceptions.md R171). -/
def Halts (s : State) : Prop := ∃ fuel t, runLoop fuel s = .ok t

/-- The run reaches a Fault outcome (R171). -/
def Faults (s : State) : Prop := ∃ fuel r t, runLoop fuel s = .err r t

/-- The run is an infinite sequence of Next steps (R171). -/
def Hangs (s : State) : Prop := ∀ fuel, ∃ t, runLoop fuel s = .outOfFuel t

end Sys2Proof
end

