-- ==== Sys2Proof/Certificates/Slice0/Obligations.lean ====
section
/-! DEFINITION. The statements about the NERS CORE for the provers. Each docstring names the rules of spec/ it rests on. -/

open Sys2Proof Sys2Proof.Machine

/-- Decoding the encoding of any instruction gives it back, whatever follows it. Every bit of an encoding is read back (30_encoding.md sections 1 and 2). -/
def Obligations.DecodeEncodeRoundTrip : Prop :=
  ∀ (i : Instr) (rest : List Byte), decode (encode i ++ rest) = .ok i rest

/-- What decodes to an instruction is its encoding and nothing else. Each word has one meaning, and nothing but the first byte fixes the length (30_encoding.md section 1). -/
def Obligations.DecodedBytesAreTheEncoding : Prop :=
  ∀ (bytes : List Byte) (i : Instr) (rest : List Byte),
    decode bytes = .ok i rest → bytes = encode i ++ rest ∧ (encode i).length = i.length

/-- The 105 bytes with no table entry raise UnrecognizedOpcode under both profiles, and only they. R63 and R156, for every configuration. -/
def Obligations.UnlistedOpcodesRaiseUnrecognized : Prop :=
  let unlisted : List Byte := [
    0x02, 0x03, 0x04, 0x07, 0x0B, 0x0C, 0x0F, 0x12, 0x13, 0x14, 0x17, 0x1A, 0x1B, 0x1C, 0x1F, 0x22, 0x23, 0x27,
    0x2B, 0x2F, 0x32, 0x33, 0x34, 0x37, 0x3A, 0x3B, 0x3C, 0x3F, 0x42, 0x43, 0x44, 0x47, 0x4B, 0x4F, 0x52, 0x53,
    0x54, 0x57, 0x5A, 0x5B, 0x5C, 0x5F, 0x62, 0x63, 0x64, 0x67, 0x6B, 0x6F, 0x72, 0x73, 0x74, 0x77, 0x7A, 0x7B,
    0x7C, 0x7F, 0x80, 0x82, 0x83, 0x87, 0x89, 0x8B, 0x8F, 0x92, 0x93, 0x97, 0x9B, 0x9C, 0x9E, 0x9F, 0xA3, 0xA7,
    0xAB, 0xAF, 0xB2, 0xB3, 0xB7, 0xBB, 0xBF, 0xC2, 0xC3, 0xC7, 0xCB, 0xCF, 0xD2, 0xD3, 0xD4, 0xD7, 0xDA, 0xDB,
    0xDC, 0xDF, 0xE2, 0xE3, 0xE7, 0xEB, 0xEF, 0xF2, 0xF3, 0xF4, 0xF7, 0xFA, 0xFB, 0xFC, 0xFF]
  unlisted.length = 105 ∧ unlisted.Nodup ∧
  (∀ op ∈ unlisted, (∀ rest, decode (op :: rest) = .unrecognizedOpcode op) ∧
    ∀ s : State, s.mode = .running → s.read s.pc = op →
      step s = .next { s with pc := s.pc + 1, mode := .faulted,
                              faultRecord := some ⟨.unrecognizedOpcode, op, s.pc⟩ }) ∧
  (∀ op, op ∉ unlisted → ∀ b1 b2, ∃ i rest, decode [op, b1, b2] = .ok i rest ∧ i.opcode = op)

/-- Words written out from the map decode to the instructions they stand for. A sanity statement: one word of each operand form. -/
def Obligations.WrittenOutWordsDecode : Prop :=
  ∀ (b lo hi : Byte) (rest : List Byte),
    decode (0xA9 :: b :: rest) = .ok (.ldaImm b) rest ∧
    decode (0x65 :: b :: rest) = .ok (.adcZp b) rest ∧
    decode (0x95 :: b :: rest) = .ok (.staZpX b) rest ∧
    decode (0xB6 :: b :: rest) = .ok (.ldxZpY b) rest ∧
    decode (0x2C :: lo :: hi :: rest) = .ok (.bitAbs (hi ++ lo)) rest ∧
    decode (0xFE :: lo :: hi :: rest) = .ok (.incAbsX (hi ++ lo)) rest ∧
    decode (0x59 :: lo :: hi :: rest) = .ok (.eorAbsY (hi ++ lo)) rest ∧
    decode (0xC1 :: b :: rest) = .ok (.cmpIndX b) rest ∧
    decode (0xF1 :: b :: rest) = .ok (.sbcIndY b) rest ∧
    decode (0x2A :: rest) = .ok .rolAcc rest ∧
    decode (0x78 :: rest) = .ok .sei rest ∧
    decode (0xD0 :: b :: rest) = .ok (.bne b) rest ∧
    decode (0x20 :: lo :: hi :: rest) = .ok (.jsr (hi ++ lo)) rest ∧
    decode (0x6C :: lo :: hi :: rest) = .ok (.jmpInd (hi ++ lo)) rest ∧
    decode (0x00 :: rest) = .ok .brk rest

/-- A spelling assembles exactly when it is well formed, to the one instruction that spells it. The opcode table by byte and the forms by mnemonic say the same (30_encoding.md sections 2 and 4). -/
def Obligations.WellFormedSpellingsAssemble : Prop :=
  (∀ sp : Spelling, (∃ i, assemble sp = some i) ↔ sp.wellFormed = true) ∧
  (∀ (sp : Spelling) (i : Instr), assemble sp = some i → i.spelling = sp) ∧
  (∀ i : Instr, assemble i.spelling = some i)

/-- A stored byte is read back, and no other cell or register changes. R38 and R39. A read is a function of the state and so changes nothing. -/
def Obligations.StoreThenLoad : Prop :=
  ∀ (s : State) (a b : Addr) (v : Byte),
    (s.write a v).read a = v ∧ (b ≠ a → (s.write a v).read b = s.read b) ∧
    s.write a v = { s with mem := (s.write a v).mem }

/-- A word written is read back at every address, 0xFFFF included, low byte first. The round trip that the source states as a testable property (20_memory.md section 1). -/
def Obligations.WordStoreThenLoad : Prop :=
  ∀ (s : State) (a b : Addr) (v : Addr),
    (s.writeWord a v).readWord a = v ∧
    ((s.writeWord a v).read a).toNat = v.toNat % 256 ∧
    ((s.writeWord a v).read (a + 1)).toNat = v.toNat / 256 ∧
    (b ≠ a → b ≠ a + 1 → (s.writeWord a v).read b = s.read b) ∧
    (s.readWord a).toNat = (s.read a).toNat + 256 * (s.read (a + 1)).toNat

/-- A zero-page pointer is read from page 0 only: its second byte wraps. At z = 0xFF the high byte comes from 0x0000, not 0x0100 (20_memory.md section 1). -/
def Obligations.ZeroPagePointerStaysInPageZero : Prop :=
  ∀ (s : State) (z : Byte) (a : Addr) (v : Byte),
    (s.zpRead16 z).toNat =
      (s.read (BitVec.ofNat 16 z.toNat)).toNat + 256 * (s.read (BitVec.ofNat 16 ((z.toNat + 1) % 256))).toNat ∧
    (256 ≤ a.toNat → (s.write a v).zpRead16 z = s.zpRead16 z)

/-- Push writes then decrements, Pull increments then reads, the stack stays in page 1. R48. -/
def Obligations.StackPrimitives : Prop :=
  ∀ (s : State) (v : Byte),
    (stackAddr s.sp).toNat = 0x0100 + s.sp.toNat ∧
    s.push v = { s.write (stackAddr s.sp) v with sp := s.sp - 1 } ∧
    s.popped = { s with sp := s.sp + 1 } ∧ s.pulled = s.read (stackAddr (s.sp + 1)) ∧
    (s.push v).pulled = v ∧ (s.push v).popped.sp = s.sp

/-- Two canonical memories that read the same at every address are the same list. The canonical form is the model's choice (the representation of memory, log entry 1): equal memories are equal lists. -/
def Obligations.CanonicalMemoriesAreEqual : Prop :=
  ∀ m m' : Memory, m.wf = true → m'.wf = true → (∀ a : Addr, m.read a.toNat = m'.read a.toNat) → m = m'

/-- SetNZ: Z exactly when the result is 0x00, N exactly when it is at least 0x80, no other flag. The flag generator of 10_state.md section 2. -/
def Obligations.ZeroAndNegativeFollowTheResult : Prop :=
  ∀ p r : Byte, SetsFlags p (putNZ p r) [(.Z, decide (r.toNat = 0)), (.N, decide (128 ≤ r.toNat))]

/-- Add8: the 9-bit sum, its carry, and V exactly on signed overflow; for SBC the borrow form. R101 and R102, for all 131072 inputs. -/
def Obligations.AdderCarryAndOverflow : Prop :=
  ∀ (a b : Byte) (cin : Bool),
    let c : Int := (cin.toNat : Int)
    (add8 a b cin).result.toNat + 256 * (add8 a b cin).carry.toNat = a.toNat + b.toNat + cin.toNat ∧
    ((add8 a b cin).overflow = true ↔ a.toInt + b.toInt + c < -128 ∨ 127 < a.toInt + b.toInt + c) ∧
    ((add8 a b cin).overflow = true ↔
      a.getLsbD 7 = b.getLsbD 7 ∧ (add8 a b cin).result.getLsbD 7 ≠ a.getLsbD 7) ∧
    ((add8 a (~~~b) cin).overflow = true ↔
      a.toInt - b.toInt - (1 - c) < -128 ∨ 127 < a.toInt - b.toInt - (1 - c))

/-- The effective address of the seven modes Immediate to Absolute_Y, from the bytes at PC. R76 to R82, at the state after the opcode fetch. -/
def Obligations.EffectiveAddresses : Prop :=
  ∀ (s : State) (i : Instr), s.fetchInstr = some i →
    let b1 := (s.read (s.pc + 1)).toNat
    let w := b1 + 256 * (s.read (s.pc + 2)).toNat
    (i.form = .immediate → i.operand.address s.fetched = some (s.pc + 1) ∧
      i.operand.value s.fetched = some (s.read (s.pc + 1))) ∧
    (i.form = .zeroPage → i.operand.address s.fetched = some (BitVec.ofNat 16 b1)) ∧
    (i.form = .zeroPageX → i.operand.address s.fetched = some (BitVec.ofNat 16 ((b1 + s.x.toNat) % 256))) ∧
    (i.form = .zeroPageY → i.operand.address s.fetched = some (BitVec.ofNat 16 ((b1 + s.y.toNat) % 256)) ∧
      (i.opcode = 0xB6 ∨ i.opcode = 0x96)) ∧
    (i.form = .absolute → i.operand.address s.fetched = some (BitVec.ofNat 16 w)) ∧
    (i.form = .absoluteX → i.operand.address s.fetched = some (BitVec.ofNat 16 ((w + s.x.toNat) % 65536))) ∧
    (i.form = .absoluteY → i.operand.address s.fetched = some (BitVec.ofNat 16 ((w + s.y.toNat) % 65536)))

/-- Indirect_X and Indirect_Y: the address through a zero-page pointer; unimplemented under SOURCE_V7. R83 and R84. -/
def Obligations.IndirectEffectiveAddresses : Prop :=
  ∀ (s : State) (i : Instr), s.fetchInstr = some i →
    let zp : Nat → Nat := fun n => (s.read (BitVec.ofNat 16 (n % 256))).toNat
    let b1 := (s.read (s.pc + 1)).toNat
    (i.form = .indirectX →
      i.operand.address s.fetched = some (BitVec.ofNat 16 (zp (b1 + s.x.toNat) + 256 * zp (b1 + s.x.toNat + 1)))) ∧
    (i.form = .indirectY →
      i.operand.address s.fetched = some (BitVec.ofNat 16 ((zp b1 + 256 * zp (b1 + 1) + s.y.toNat) % 65536))) ∧
    (i.form = .indirectX ∨ i.form = .indirectY → UnimplementedUnderV7 i)

/-- The operand the decoder assembled resolves as EA(mode) does from the bytes at PC. The model carries assembled operands in `Instr` (log entry 9); this says that nothing is lost by it. -/
def Obligations.DecodedOperandsMatchTheResolver : Prop :=
  ∀ (s : State) (i : Instr), s.fetchInstr = some i →
    i.operand.address s.fetched = resolve i.form.mode s.fetched ∧
    i.operand.value s.fetched = (resolve i.form.mode s.fetched).map s.fetched.read

/-- A step runs exec of the instruction decoded at PC, then advances PC by the operand width. The step of R68: what stands around exec on this hardware. -/
def Obligations.StepRunsTheDecodedInstruction : Prop :=
  ∀ (s t : State) (i : Instr) (rest : List Byte), s.mode = .running →
    decode [s.read s.pc, s.read (s.pc + 1), s.read (s.pc + 2)] = .ok i rest →
    i.executesUnder s.cfg.execProfile = true → exec i { s with pc := s.pc + 1 } = .next t →
    s.fetchInstr = some i ∧
    (t.mode = .running → i.isControlTransfer = false →
      step s = .next { t with pc := t.pc + BitVec.ofNat 16 i.width }) ∧
    (t.mode ≠ .running ∨ i.isControlTransfer = true → step s = .next t)

/-- A Running step has exactly one of three outcomes; in any other mode there is no step. R74: Next, Halt or Fault, told apart by the mode of the state left. That a halt and a fault are next states (log entries 4 and 6), and that step answers noEnabledStep in the other modes (log entry 5), is the model's: R74 says only that there is no step. -/
def Obligations.StepHasOneOfThreeOutcomes : Prop :=
  ∀ s : State,
    (s.mode = .running → ∃ t, step s = .next t ∧
      (t.mode = .running ∨ t.mode = .halted ∨
        (t.mode = .faulted ∧ ∃ k, t.faultRecord = some ⟨k, s.read s.pc, s.pc⟩)) ∧
      (t.mode = .halted ↔ s.read s.pc = 0x00)) ∧
    (s.mode ≠ .running → step s = .fault (.noEnabledStep s.mode))

/-- An instruction that completes and is no control transfer leaves PC = fetch_pc + length. R72: 1 at the fetch and the operand width after execution. -/
def Obligations.PcAdvancesByTheLength : Prop :=
  ∀ (s : State) (i : Instr), s.mode = .running → s.fetchInstr = some i →
    i.executesUnder s.cfg.execProfile = true →
    ∃ t t', exec i s.fetched = .next t ∧ step s = .next t' ∧ t' = { t with pc := t'.pc } ∧
      (i.isControlTransfer = false → t.mode = .running → t'.pc = s.pc + BitVec.ofNat 16 i.length) ∧
      (i.isControlTransfer = true → t'.pc = t.pc)

/-- A faulting step changes nothing but PC, the mode and the record. R159, over every way a step can fault. -/
def Obligations.FaultsArePrecise : Prop :=
  ∀ s t : State, step s = .next t → t.mode = .faulted →
    ∃ k, t = { s with pc := s.pc + 1, mode := .faulted, faultRecord := some ⟨k, s.read s.pc, s.pc⟩ }

/-- SOURCE_V7 executes 23 opcodes and raises UnimplementedOpcode for the other 128; FULL executes all. R65, and with it the dispatch check of R71. -/
def Obligations.ProfilesSelectWhatExecutes : Prop :=
  let v7 : List Byte := [
    0xA5, 0xA9, 0xAD, 0xB5, 0xB9, 0xBD, 0xA2, 0xA6, 0xAE, 0xB6, 0xBE, 0xA0, 0xA4, 0xAC, 0xB4, 0xBC, 0x85, 0x8D,
    0x95, 0x99, 0x9D, 0xAA, 0x00]
  v7.length = 23 ∧ v7.Nodup ∧
  ∀ (s : State) (i : Instr), s.mode = .running → s.fetchInstr = some i →
    (s.cfg.execProfile = .full ∨ i.opcode ∈ v7 → step s = finishResult i (exec i s.fetched)) ∧
    (s.cfg.execProfile = .sourceV7 → i.opcode ∉ v7 →
      step s = .next { s with pc := s.pc + 1, mode := .faulted,
                              faultRecord := some ⟨.unimplementedOpcode, i.opcode, s.pc⟩ })

/-- InvalidAddressingUse never arises, and under FULL with BINARY only UnrecognizedOpcode does. The derived sentences of R85, R157 and R158. -/
def Obligations.OnlySpecifiedFaultKindsArise : Prop :=
  ∀ (s t : State) (r : FaultRecord), step s = .next t → t.mode = .faulted → t.faultRecord = some r →
    r.kind ≠ .invalidAddressingUse ∧
    (s.cfg.execProfile = .full → s.cfg.decimalMode = .binary → r.kind = .unrecognizedOpcode ∧ s.fetchInstr = none)

/-- Every instruction answers a next state from every state; none stops or is refused. No instruction of the table is without an effect. That BRK and a refused ADC or SBC answer a next state too is the model's reading of the Halt and the Fault of R74 (log entries 4 and 6). -/
def Obligations.ExecAlwaysAnswersNext : Prop :=
  ∀ (i : Instr) (s : State), ∃ t, exec i s = .next t ∧ t.cfg = s.cfg ∧
    (t.mode = .faulted → s.mode = .faulted ∨
      ((i.mnemonic = .ADC ∨ i.mnemonic = .SBC) ∧ s.cfg.decimalMode = .refuse ∧ s.flag .D = true))

/-- LDA, LDX and LDY load the operand byte and set Z and N from it, in every mode. R89 to R91: result, flags, frame and completion of the 18 load rows. -/
def Obligations.LoadsWriteTheirRegister : Prop :=
  ∀ (i : Instr) (s : State),
    (i.mnemonic = .LDA → (i.form, i.opcode) ∈ ([(.indirectX, 0xA1), (.zeroPage, 0xA5), (.immediate, 0xA9), (.absolute, 0xAD), (.indirectY, 0xB1), (.zeroPageX, 0xB5), (.absoluteY, 0xB9), (.absoluteX, 0xBD)] : List (Form × Byte)) ∧
      (if i.opcode = 0xA1 ∨ i.opcode = 0xB1 then UnimplementedUnderV7 i else i.executesUnder .sourceV7 = true) ∧
      ∃ m p', i.operand.value s = some m ∧ SetsFlags s.p p' (resultFlags m) ∧
        exec i s = .next { s with a := m, p := p' }) ∧
    (i.mnemonic = .LDX → (i.form, i.opcode) ∈ ([(.immediate, 0xA2), (.zeroPage, 0xA6), (.absolute, 0xAE), (.zeroPageY, 0xB6), (.absoluteY, 0xBE)] : List (Form × Byte)) ∧
      i.executesUnder .sourceV7 = true ∧
      ∃ m p', i.operand.value s = some m ∧ SetsFlags s.p p' (resultFlags m) ∧
        exec i s = .next { s with x := m, p := p' }) ∧
    (i.mnemonic = .LDY → (i.form, i.opcode) ∈ ([(.immediate, 0xA0), (.zeroPage, 0xA4), (.absolute, 0xAC), (.zeroPageX, 0xB4), (.absoluteX, 0xBC)] : List (Form × Byte)) ∧
      i.executesUnder .sourceV7 = true ∧
      ∃ m p', i.operand.value s = some m ∧ SetsFlags s.p p' (resultFlags m) ∧
        exec i s = .next { s with y := m, p := p' })

/-- STA, STX and STY store their register at the effective address and change nothing else. R92 to R94: the 13 store rows. -/
def Obligations.StoresWriteOneCell : Prop :=
  ∀ (i : Instr) (s : State),
    (i.mnemonic = .STA → (i.form, i.opcode) ∈ ([(.indirectX, 0x81), (.zeroPage, 0x85), (.absolute, 0x8D), (.indirectY, 0x91), (.zeroPageX, 0x95), (.absoluteY, 0x99), (.absoluteX, 0x9D)] : List (Form × Byte)) ∧
      (if i.opcode = 0x81 ∨ i.opcode = 0x91 then UnimplementedUnderV7 i else i.executesUnder .sourceV7 = true) ∧
      ∃ ea, i.operand.address s = some ea ∧ exec i s = .next (s.write ea s.a)) ∧
    (i.mnemonic = .STX → (i.form, i.opcode) ∈ ([(.zeroPage, 0x86), (.absolute, 0x8E), (.zeroPageY, 0x96)] : List (Form × Byte)) ∧
      UnimplementedUnderV7 i ∧
      ∃ ea, i.operand.address s = some ea ∧ exec i s = .next (s.write ea s.x)) ∧
    (i.mnemonic = .STY → (i.form, i.opcode) ∈ ([(.zeroPage, 0x84), (.absolute, 0x8C), (.zeroPageX, 0x94)] : List (Form × Byte)) ∧
      UnimplementedUnderV7 i ∧
      ∃ ea, i.operand.address s = some ea ∧ exec i s = .next (s.write ea s.y))

/-- TAX, TAY, TXA, TYA and TSX copy and set Z and N; TXS copies X to SP and sets no flag. R95 to R100. -/
def Obligations.TransfersCopyRegisters : Prop :=
  ∀ s : State,
    (Instr.tax.opcode = 0xAA ∧ Instr.tax.executesUnder .sourceV7 = true ∧ ∃ p', SetsFlags s.p p' (resultFlags s.a) ∧
      exec .tax s = .next { s with x := s.a, p := p' }) ∧
    (Instr.tay.opcode = 0xA8 ∧ UnimplementedUnderV7 .tay ∧ ∃ p', SetsFlags s.p p' (resultFlags s.a) ∧
      exec .tay s = .next { s with y := s.a, p := p' }) ∧
    (Instr.txa.opcode = 0x8A ∧ UnimplementedUnderV7 .txa ∧ ∃ p', SetsFlags s.p p' (resultFlags s.x) ∧
      exec .txa s = .next { s with a := s.x, p := p' }) ∧
    (Instr.tya.opcode = 0x98 ∧ UnimplementedUnderV7 .tya ∧ ∃ p', SetsFlags s.p p' (resultFlags s.y) ∧
      exec .tya s = .next { s with a := s.y, p := p' }) ∧
    (Instr.tsx.opcode = 0xBA ∧ UnimplementedUnderV7 .tsx ∧ ∃ p', SetsFlags s.p p' (resultFlags s.sp) ∧
      exec .tsx s = .next { s with x := s.sp, p := p' }) ∧
    (Instr.txs.opcode = 0x9A ∧ UnimplementedUnderV7 .txs ∧ exec .txs s = .next { s with sp := s.x })

/-- ADC: A + M + C with carry, signed overflow, Z and N, in every mode; the decimal refusal. R105. On entry PC is fetch_pc + 1, so PC - 1 is fetch_pc. -/
def Obligations.AdcAddsWithCarry : Prop :=
  ∀ (i : Instr) (s : State), i.mnemonic = .ADC →
    (i.form, i.opcode) ∈ ([(.indirectX, 0x61), (.zeroPage, 0x65), (.immediate, 0x69), (.absolute, 0x6D), (.indirectY, 0x71), (.zeroPageX, 0x75), (.absoluteY, 0x79), (.absoluteX, 0x7D)] : List (Form × Byte)) ∧ UnimplementedUnderV7 i ∧
    (¬ (s.cfg.decimalMode = .refuse ∧ s.flag .D = true) →
      ∃ m p', i.operand.value s = some m ∧
        let sum := s.a.toNat + m.toNat + (s.flag .C).toNat
        let signed : Int := s.a.toInt + m.toInt + ((s.flag .C).toNat : Int)
        SetsFlags s.p p' ([(.C, decide (256 ≤ sum)), (.V, decide (signed < -128 ∨ 127 < signed))] ++
          resultFlags (BitVec.ofNat 8 sum)) ∧
        exec i s = .next { s with a := BitVec.ofNat 8 sum, p := p' }) ∧
    (s.cfg.decimalMode = .refuse ∧ s.flag .D = true →
      exec i s = .next { s with mode := .faulted, faultRecord := some ⟨.unimplementedOpcode, i.opcode, s.pc - 1⟩ })

/-- SBC: A - M - (1 - C); C is no borrow, V is signed overflow; the decimal refusal. R106. -/
def Obligations.SbcSubtractsWithBorrow : Prop :=
  ∀ (i : Instr) (s : State), i.mnemonic = .SBC →
    (i.form, i.opcode) ∈ ([(.indirectX, 0xE1), (.zeroPage, 0xE5), (.immediate, 0xE9), (.absolute, 0xED), (.indirectY, 0xF1), (.zeroPageX, 0xF5), (.absoluteY, 0xF9), (.absoluteX, 0xFD)] : List (Form × Byte)) ∧ UnimplementedUnderV7 i ∧
    (¬ (s.cfg.decimalMode = .refuse ∧ s.flag .D = true) →
      ∃ m p', i.operand.value s = some m ∧
        let borrow := 1 - (s.flag .C).toNat
        let signed : Int := s.a.toInt - m.toInt - (borrow : Int)
        let r : Byte := s.a - m - BitVec.ofNat 8 borrow
        SetsFlags s.p p' ([(.C, decide (m.toNat + borrow ≤ s.a.toNat)), (.V, decide (signed < -128 ∨ 127 < signed))] ++
          resultFlags r) ∧
        exec i s = .next { s with a := r, p := p' }) ∧
    (s.cfg.decimalMode = .refuse ∧ s.flag .D = true →
      exec i s = .next { s with mode := .faulted, faultRecord := some ⟨.unimplementedOpcode, i.opcode, s.pc - 1⟩ })

/-- AND, ORA and EOR: the bitwise result in A, Z and N from it, C and V untouched. R104, R107 to R109. -/
def Obligations.LogicInstructions : Prop :=
  ∀ (i : Instr) (s : State),
    (i.mnemonic = .AND → (i.form, i.opcode) ∈ ([(.indirectX, 0x21), (.zeroPage, 0x25), (.immediate, 0x29), (.absolute, 0x2D), (.indirectY, 0x31), (.zeroPageX, 0x35), (.absoluteY, 0x39), (.absoluteX, 0x3D)] : List (Form × Byte)) ∧ UnimplementedUnderV7 i ∧
      ∃ m p', i.operand.value s = some m ∧ SetsFlags s.p p' (resultFlags (s.a &&& m)) ∧
        exec i s = .next { s with a := s.a &&& m, p := p' }) ∧
    (i.mnemonic = .ORA → (i.form, i.opcode) ∈ ([(.indirectX, 0x01), (.zeroPage, 0x05), (.immediate, 0x09), (.absolute, 0x0D), (.indirectY, 0x11), (.zeroPageX, 0x15), (.absoluteY, 0x19), (.absoluteX, 0x1D)] : List (Form × Byte)) ∧ UnimplementedUnderV7 i ∧
      ∃ m p', i.operand.value s = some m ∧ SetsFlags s.p p' (resultFlags (s.a ||| m)) ∧
        exec i s = .next { s with a := s.a ||| m, p := p' }) ∧
    (i.mnemonic = .EOR → (i.form, i.opcode) ∈ ([(.indirectX, 0x41), (.zeroPage, 0x45), (.immediate, 0x49), (.absolute, 0x4D), (.indirectY, 0x51), (.zeroPageX, 0x55), (.absoluteY, 0x59), (.absoluteX, 0x5D)] : List (Form × Byte)) ∧ UnimplementedUnderV7 i ∧
      ∃ m p', i.operand.value s = some m ∧ SetsFlags s.p p' (resultFlags (s.a ^^^ m)) ∧
        exec i s = .next { s with a := s.a ^^^ m, p := p' })

/-- CMP, CPX and CPY: C is no borrow, Z equality, N bit 7 of the difference; the register is kept. R103, R110 to R112. -/
def Obligations.CompareInstructions : Prop :=
  ∀ (i : Instr) (s : State),
    (i.mnemonic = .CMP → (i.form, i.opcode) ∈ ([(.indirectX, 0xC1), (.zeroPage, 0xC5), (.immediate, 0xC9), (.absolute, 0xCD), (.indirectY, 0xD1), (.zeroPageX, 0xD5), (.absoluteY, 0xD9), (.absoluteX, 0xDD)] : List (Form × Byte)) ∧ UnimplementedUnderV7 i ∧
      ∃ m p', i.operand.value s = some m ∧
        SetsFlags s.p p' [(.C, decide (m.toNat ≤ s.a.toNat)), (.Z, decide (s.a = m)), (.N, (s.a - m).msb)] ∧
        exec i s = .next { s with p := p' }) ∧
    (i.mnemonic = .CPX → (i.form, i.opcode) ∈ ([(.immediate, 0xE0), (.zeroPage, 0xE4), (.absolute, 0xEC)] : List (Form × Byte)) ∧ UnimplementedUnderV7 i ∧
      ∃ m p', i.operand.value s = some m ∧
        SetsFlags s.p p' [(.C, decide (m.toNat ≤ s.x.toNat)), (.Z, decide (s.x = m)), (.N, (s.x - m).msb)] ∧
        exec i s = .next { s with p := p' }) ∧
    (i.mnemonic = .CPY → (i.form, i.opcode) ∈ ([(.immediate, 0xC0), (.zeroPage, 0xC4), (.absolute, 0xCC)] : List (Form × Byte)) ∧ UnimplementedUnderV7 i ∧
      ∃ m p', i.operand.value s = some m ∧
        SetsFlags s.p p' [(.C, decide (m.toNat ≤ s.y.toNat)), (.Z, decide (s.y = m)), (.N, (s.y - m).msb)] ∧
        exec i s = .next { s with p := p' })

/-- BIT: Z from A & M, N and V from bits 7 and 6 of M; A and C are kept. R113. -/
def Obligations.BitTest : Prop :=
  ∀ (i : Instr) (s : State), i.mnemonic = .BIT →
    (i.form, i.opcode) ∈ ([(.zeroPage, 0x24), (.absolute, 0x2C)] : List (Form × Byte)) ∧ UnimplementedUnderV7 i ∧
    ∃ m p', i.operand.value s = some m ∧
      SetsFlags s.p p' [(.Z, decide (s.a &&& m = 0x00)), (.N, m.getLsbD 7), (.V, m.getLsbD 6)] ∧
      exec i s = .next { s with p := p' }

/-- INC and DEC write the cell plus or minus 1 modulo 256 at one address, Z and N from it. R116 and R117. -/
def Obligations.IncAndDecMemory : Prop :=
  ∀ (i : Instr) (s : State),
    (i.mnemonic = .INC → (i.form, i.opcode) ∈ ([(.zeroPage, 0xE6), (.absolute, 0xEE), (.zeroPageX, 0xF6), (.absoluteX, 0xFE)] : List (Form × Byte)) ∧ UnimplementedUnderV7 i ∧
      ∃ ea p', i.operand.address s = some ea ∧ SetsFlags s.p p' (resultFlags (s.read ea + 1)) ∧
        exec i s = .next { s.write ea (s.read ea + 1) with p := p' }) ∧
    (i.mnemonic = .DEC → (i.form, i.opcode) ∈ ([(.zeroPage, 0xC6), (.absolute, 0xCE), (.zeroPageX, 0xD6), (.absoluteX, 0xDE)] : List (Form × Byte)) ∧ UnimplementedUnderV7 i ∧
      ∃ ea p', i.operand.address s = some ea ∧ SetsFlags s.p p' (resultFlags (s.read ea - 1)) ∧
        exec i s = .next { s.write ea (s.read ea - 1) with p := p' })

/-- INX, INY, DEX and DEY: X or Y plus or minus 1 modulo 256, Z and N from it, no carry. R118 to R121. -/
def Obligations.RegisterIncrements : Prop :=
  ∀ s : State,
    (Instr.inx.opcode = 0xE8 ∧ UnimplementedUnderV7 .inx ∧ ∃ p', SetsFlags s.p p' (resultFlags (s.x + 1)) ∧
      exec .inx s = .next { s with x := s.x + 1, p := p' }) ∧
    (Instr.iny.opcode = 0xC8 ∧ UnimplementedUnderV7 .iny ∧ ∃ p', SetsFlags s.p p' (resultFlags (s.y + 1)) ∧
      exec .iny s = .next { s with y := s.y + 1, p := p' }) ∧
    (Instr.dex.opcode = 0xCA ∧ UnimplementedUnderV7 .dex ∧ ∃ p', SetsFlags s.p p' (resultFlags (s.x - 1)) ∧
      exec .dex s = .next { s with x := s.x - 1, p := p' }) ∧
    (Instr.dey.opcode = 0x88 ∧ UnimplementedUnderV7 .dey ∧ ∃ p', SetsFlags s.p p' (resultFlags (s.y - 1)) ∧
      exec .dey s = .next { s with y := s.y - 1, p := p' })

/-- ASL, LSR, ROL and ROR on A or on one cell: result, C the bit shifted out, Z and N, V kept. R122 to R126: the 20 shift rows. -/
def Obligations.ShiftsAndRotates : Prop :=
  ∀ (i : Instr) (s : State),
    let result : Byte → Byte := fun v =>
      match i.mnemonic with
      | .ASL => BitVec.ofNat 8 (2 * v.toNat)
      | .LSR => BitVec.ofNat 8 (v.toNat / 2)
      | .ROL => BitVec.ofNat 8 (2 * v.toNat + (s.flag .C).toNat)
      | .ROR => BitVec.ofNat 8 (v.toNat / 2 + 128 * (s.flag .C).toNat)
      | _ => v
    let out : Byte → Bool := fun v =>
      if i.mnemonic = .ASL ∨ i.mnemonic = .ROL then decide (128 ≤ v.toNat) else decide (v.toNat % 2 = 1)
    i.mnemonic ∈ ([.ASL, .LSR, .ROL, .ROR] : List Mnemonic) →
      (i.mnemonic, i.form, i.opcode) ∈ ([(.ASL, .zeroPage, 0x06), (.ASL, .accumulator, 0x0A), (.ASL, .absolute, 0x0E), (.ASL, .zeroPageX, 0x16), (.ASL, .absoluteX, 0x1E),
        (.LSR, .zeroPage, 0x46), (.LSR, .accumulator, 0x4A), (.LSR, .absolute, 0x4E), (.LSR, .zeroPageX, 0x56), (.LSR, .absoluteX, 0x5E),
        (.ROL, .zeroPage, 0x26), (.ROL, .accumulator, 0x2A), (.ROL, .absolute, 0x2E), (.ROL, .zeroPageX, 0x36), (.ROL, .absoluteX, 0x3E),
        (.ROR, .zeroPage, 0x66), (.ROR, .accumulator, 0x6A), (.ROR, .absolute, 0x6E), (.ROR, .zeroPageX, 0x76), (.ROR, .absoluteX, 0x7E)] : List (Mnemonic × Form × Byte)) ∧
      UnimplementedUnderV7 i ∧
      (i.form = .accumulator → ∃ p', SetsFlags s.p p' ((.C, out s.a) :: resultFlags (result s.a)) ∧
        exec i s = .next { s with a := result s.a, p := p' }) ∧
      (i.form ≠ .accumulator → ∃ ea p', i.operand.address s = some ea ∧
        SetsFlags s.p p' ((.C, out (s.read ea)) :: resultFlags (result (s.read ea))) ∧
        exec i s = .next { s.write ea (result (s.read ea)) with p := p' })

/-- CLC, SEC, CLI, SEI, CLD, SED and CLV write the one flag they name and nothing else. R127 to R133. -/
def Obligations.FlagInstructions : Prop :=
  ∀ s : State,
    (Instr.clc.opcode = 0x18 ∧ UnimplementedUnderV7 .clc ∧
      ∃ p', SetsFlags s.p p' [(.C, false)] ∧ exec .clc s = .next { s with p := p' }) ∧
    (Instr.sec.opcode = 0x38 ∧ UnimplementedUnderV7 .sec ∧
      ∃ p', SetsFlags s.p p' [(.C, true)] ∧ exec .sec s = .next { s with p := p' }) ∧
    (Instr.cli.opcode = 0x58 ∧ UnimplementedUnderV7 .cli ∧
      ∃ p', SetsFlags s.p p' [(.I, false)] ∧ exec .cli s = .next { s with p := p' }) ∧
    (Instr.sei.opcode = 0x78 ∧ UnimplementedUnderV7 .sei ∧
      ∃ p', SetsFlags s.p p' [(.I, true)] ∧ exec .sei s = .next { s with p := p' }) ∧
    (Instr.cld.opcode = 0xD8 ∧ UnimplementedUnderV7 .cld ∧
      ∃ p', SetsFlags s.p p' [(.D, false)] ∧ exec .cld s = .next { s with p := p' }) ∧
    (Instr.sed.opcode = 0xF8 ∧ UnimplementedUnderV7 .sed ∧
      ∃ p', SetsFlags s.p p' [(.D, true)] ∧ exec .sed s = .next { s with p := p' }) ∧
    (Instr.clv.opcode = 0xB8 ∧ UnimplementedUnderV7 .clv ∧
      ∃ p', SetsFlags s.p p' [(.V, false)] ∧ exec .clv s = .next { s with p := p' })

/-- PHA pushes A; PHP pushes P with both break bits set, and leaves P as it is. R134 and R135. -/
def Obligations.PushInstructions : Prop :=
  ∀ s : State,
    (Instr.pha.opcode = 0x48 ∧ UnimplementedUnderV7 .pha ∧
      exec .pha s = .next { s.write (stackAddr s.sp) s.a with sp := s.sp - 1 }) ∧
    (Instr.php.opcode = 0x08 ∧ UnimplementedUnderV7 .php ∧
      ∃ b, SetsFlags s.p b [(.BA, true), (.BB, true)] ∧
        exec .php s = .next { s.write (stackAddr s.sp) b with sp := s.sp - 1 })

/-- PLA pulls A and sets Z and N; PLP pulls P with BA = 0 and BB = 1. R136 and R137. -/
def Obligations.PullInstructions : Prop :=
  ∀ s : State,
    (Instr.pla.opcode = 0x68 ∧ UnimplementedUnderV7 .pla ∧
      ∃ p', SetsFlags s.p p' (resultFlags (s.read (stackAddr (s.sp + 1)))) ∧
        exec .pla s = .next { s with a := s.read (stackAddr (s.sp + 1)), sp := s.sp + 1, p := p' }) ∧
    (Instr.plp.opcode = 0x28 ∧ UnimplementedUnderV7 .plp ∧
      ∃ p', SetsFlags (s.read (stackAddr (s.sp + 1))) p' [(.BA, false), (.BB, true)] ∧
        exec .plp s = .next { s with sp := s.sp + 1, p := p' })

/-- JMP absolute goes to its operand; JMP indirect to the word at it, with the page wrap of the parameter. R139 and R140. -/
def Obligations.Jumps : Prop :=
  ∀ (s : State) (addr : Addr),
    (Instr.jmpAbs addr).opcode = 0x4C ∧ (Instr.jmpInd addr).opcode = 0x6C ∧
    UnimplementedUnderV7 (.jmpAbs addr) ∧ UnimplementedUnderV7 (.jmpInd addr) ∧
    exec (.jmpAbs addr) s = .next { s with pc := addr } ∧
    (s.cfg.jmpIndWrap = .linear ∨ addr.toNat % 256 ≠ 255 →
      exec (.jmpInd addr) s = .next { s with pc := s.read (addr + 1) ++ s.read addr }) ∧
    (s.cfg.jmpIndWrap = .nmosPageWrap → addr.toNat % 256 = 255 →
      exec (.jmpInd addr) s = .next { s with pc := s.read (addr - 255) ++ s.read addr })

/-- JSR pushes the address of its last byte, high byte first; RTS pulls it and adds 1. R141 and R142. On entry PC is fetch_pc + 1. -/
def Obligations.SubroutineCallAndReturn : Prop :=
  ∀ (s : State) (addr : Addr),
    (Instr.jsr addr).opcode = 0x20 ∧ Instr.rts.opcode = 0x60 ∧
    UnimplementedUnderV7 (.jsr addr) ∧ UnimplementedUnderV7 .rts ∧
    (∃ hi lo : Byte, hi ++ lo = s.pc + 1 ∧
      exec (.jsr addr) s = .next { (s.write (stackAddr s.sp) hi).write (stackAddr (s.sp - 1)) lo with
        sp := s.sp - 2, pc := addr }) ∧
    exec .rts s = .next { s with
      sp := s.sp + 2, pc := (s.read (stackAddr (s.sp + 2)) ++ s.read (stackAddr (s.sp + 1))) + 1 }

/-- RTS after JSR returns to the instruction after the JSR with SP restored. The worked examples of R141 and R142, for every state. -/
def Obligations.CallThenReturn : Prop :=
  ∀ (s t u : State) (addr : Addr), exec (.jsr addr) s = .next t → exec .rts t = .next u →
    u.pc = s.pc + 2 ∧ u.sp = s.sp ∧ u.a = s.a ∧ u.x = s.x ∧ u.y = s.y ∧ u.p = s.p

/-- RTI pulls P with BA = 0 and BB = 1, then PC low and high byte, with no 1 added. R143. -/
def Obligations.ReturnFromInterrupt : Prop :=
  ∀ s : State, Instr.rti.opcode = 0x40 ∧ UnimplementedUnderV7 .rti ∧
    ∃ p', SetsFlags (s.read (stackAddr (s.sp + 1))) p' [(.BA, false), (.BB, true)] ∧
      exec .rti s = .next { s with
        sp := s.sp + 3, p := p', pc := s.read (stackAddr (s.sp + 3)) ++ s.read (stackAddr (s.sp + 2)) }

/-- The eight branches: taken on their flag to next + signed offset modulo 65536, else to next. R144 to R152. -/
def Obligations.Branches : Prop :=
  ∀ (s : State) (rel : Byte),
    let target : Addr := BitVec.ofInt 16 ((s.pc + 1).toInt + rel.toInt)
    let next : Addr := s.pc + 1
    ((Instr.bpl rel).opcode = 0x10 ∧ UnimplementedUnderV7 (.bpl rel) ∧
      exec (.bpl rel) s = .next { s with pc := if s.flag .N = false then target else next }) ∧
    ((Instr.bmi rel).opcode = 0x30 ∧ UnimplementedUnderV7 (.bmi rel) ∧
      exec (.bmi rel) s = .next { s with pc := if s.flag .N = true then target else next }) ∧
    ((Instr.bvc rel).opcode = 0x50 ∧ UnimplementedUnderV7 (.bvc rel) ∧
      exec (.bvc rel) s = .next { s with pc := if s.flag .V = false then target else next }) ∧
    ((Instr.bvs rel).opcode = 0x70 ∧ UnimplementedUnderV7 (.bvs rel) ∧
      exec (.bvs rel) s = .next { s with pc := if s.flag .V = true then target else next }) ∧
    ((Instr.bcc rel).opcode = 0x90 ∧ UnimplementedUnderV7 (.bcc rel) ∧
      exec (.bcc rel) s = .next { s with pc := if s.flag .C = false then target else next }) ∧
    ((Instr.bcs rel).opcode = 0xB0 ∧ UnimplementedUnderV7 (.bcs rel) ∧
      exec (.bcs rel) s = .next { s with pc := if s.flag .C = true then target else next }) ∧
    ((Instr.bne rel).opcode = 0xD0 ∧ UnimplementedUnderV7 (.bne rel) ∧
      exec (.bne rel) s = .next { s with pc := if s.flag .Z = false then target else next }) ∧
    ((Instr.beq rel).opcode = 0xF0 ∧ UnimplementedUnderV7 (.beq rel) ∧
      exec (.beq rel) s = .next { s with pc := if s.flag .Z = true then target else next })

/-- BRK halts the controller under both profiles: PC = fetch_pc + 1, nothing else changes. R153. -/
def Obligations.BrkHalts : Prop :=
  ∀ s : State, Instr.brk.opcode = 0x00 ∧ Instr.brk.length = 1 ∧ exec .brk s = .next { s with mode := .halted } ∧
    (s.mode = .running → s.read s.pc = 0x00 → step s = .next { s with pc := s.pc + 1, mode := .halted })

/-- NOP changes nothing but PC. R154. -/
def Obligations.NopDoesNothing : Prop :=
  ∀ s : State, Instr.nop.opcode = 0xEA ∧ Instr.nop.length = 1 ∧ UnimplementedUnderV7 .nop ∧ exec .nop s = .next s ∧
    (s.mode = .running → s.cfg.execProfile = .full → s.read s.pc = 0xEA → step s = .next { s with pc := s.pc + 1 })

/-- Frame: A, X, Y and SP change only by the instructions the rules list as their writers. The writers listed in R15 to R18. -/
def Obligations.RegistersChangeOnlyByTheirWriters : Prop :=
  ∀ (i : Instr) (s t : State), exec i s = .next t →
    (i.mnemonic ∉ ([.LDA, .TXA, .TYA, .PLA, .ADC, .SBC, .AND, .ORA, .EOR] : List Mnemonic) →
      ¬ (i.mnemonic ∈ ([.ASL, .LSR, .ROL, .ROR] : List Mnemonic) ∧ i.form = .accumulator) → t.a = s.a) ∧
    (i.mnemonic ∉ ([.LDX, .TAX, .TSX, .INX, .DEX] : List Mnemonic) → t.x = s.x) ∧
    (i.mnemonic ∉ ([.LDY, .TAY, .INY, .DEY] : List Mnemonic) → t.y = s.y) ∧
    (i.mnemonic ∉ ([.TXS, .PHA, .PHP, .PLA, .PLP, .JSR, .RTS, .RTI] : List Mnemonic) → t.sp = s.sp) ∧
    t.cfg = s.cfg

/-- Frame: each flag of P changes only by the instructions the flag table lists. The "written by" column of the table of P, and the callers of SetNZ. -/
def Obligations.FlagsChangeOnlyByTheirWriters : Prop :=
  ∀ (i : Instr) (s t : State), exec i s = .next t →
    let nz : List Mnemonic := [.LDA, .LDX, .LDY, .PLA, .TAX, .TAY, .TXA, .TYA, .TSX, .ADC, .SBC, .AND, .ORA, .EOR,
      .INC, .DEC, .INX, .INY, .DEX, .DEY, .ASL, .LSR, .ROL, .ROR, .CMP, .CPX, .CPY, .BIT, .PLP, .RTI]
    (i.mnemonic ∉ ([.ADC, .SBC, .CMP, .CPX, .CPY, .ASL, .LSR, .ROL, .ROR, .CLC, .SEC, .PLP, .RTI] : List Mnemonic) →
      t.flag .C = s.flag .C) ∧
    (i.mnemonic ∉ nz → t.flag .Z = s.flag .Z ∧ t.flag .N = s.flag .N) ∧
    (i.mnemonic ∉ ([.CLI, .SEI, .PLP, .RTI] : List Mnemonic) → t.flag .I = s.flag .I) ∧
    (i.mnemonic ∉ ([.CLD, .SED, .PLP, .RTI] : List Mnemonic) → t.flag .D = s.flag .D) ∧
    (i.mnemonic ∉ ([.ADC, .SBC, .BIT, .CLV, .PLP, .RTI] : List Mnemonic) → t.flag .V = s.flag .V) ∧
    (i.mnemonic ∉ ([.PLP, .RTI] : List Mnemonic) → t.flag .BA = s.flag .BA ∧ t.flag .BB = s.flag .BB)

/-- Frame: memory changes only at the cells an instruction stores to, computed from the state. Every byte outside the stored bytes reads as before. -/
def Obligations.MemoryChangesOnlyWhereStored : Prop :=
  ∀ (i : Instr) (s t : State), exec i s = .next t →
    (∀ ea, i.mnemonic ∈ ([.STA, .STX, .STY, .INC, .DEC, .ASL, .LSR, .ROL, .ROR] : List Mnemonic) →
      i.operand.address s = some ea → ∀ a, a ≠ ea → t.read a = s.read a) ∧
    (i.mnemonic ∈ ([.PHA, .PHP] : List Mnemonic) → ∀ a, a ≠ stackAddr s.sp → t.read a = s.read a) ∧
    (i.mnemonic = .JSR → ∀ a, a ≠ stackAddr s.sp → a ≠ stackAddr (s.sp - 1) → t.read a = s.read a) ∧
    (i.mnemonic ∉ ([.STA, .STX, .STY, .INC, .DEC, .ASL, .LSR, .ROL, .ROR, .PHA, .PHP, .JSR] : List Mnemonic) ∨
      i.form = .accumulator → ∀ a, t.read a = s.read a) ∧
    (∀ a, a ∉ i.storedAddrs s → t.read a = s.read a)

/-- Frame: PC changes only by control transfers, the mode only by BRK or a decimal refusal. The controller state that an instruction touches. -/
def Obligations.ModeRecordAndPcFrame : Prop :=
  ∀ (i : Instr) (s t : State), exec i s = .next t →
    (i.isControlTransfer = true ↔
      i.mnemonic ∈ ([.JMP, .JSR, .RTS, .RTI, .BPL, .BMI, .BVC, .BVS, .BCC, .BCS, .BNE, .BEQ] : List Mnemonic)) ∧
    (i.isControlTransfer = false → t.pc = s.pc) ∧
    (i.mnemonic = .BRK → t.mode = .halted ∧ t.faultRecord = s.faultRecord) ∧
    (i.mnemonic ≠ .BRK →
      ¬ ((i.mnemonic = .ADC ∨ i.mnemonic = .SBC) ∧ s.cfg.decimalMode = .refuse ∧ s.flag .D = true) →
      t.mode = s.mode ∧ t.faultRecord = s.faultRecord)

/-- The I flag, the break bits, and D under BINARY decide nothing but their own value. No rule reads I, BA or BB, and DecimalCheck is the only place where D matters. -/
def Obligations.UnreadFlagsDoNotMatter : Prop :=
  ∀ (i : Instr) (s : State) (f : Flag) (b : Bool),
    f = .BA ∨ f = .BB ∨ (f = .I ∧ i.mnemonic ≠ .PHP) ∨
      (f = .D ∧ i.mnemonic ≠ .PHP ∧ s.cfg.decimalMode = .binary) →
    ∃ t t', exec i s = .next t ∧ exec i (s.setFlag f b) = .next t' ∧ t' = { t with p := t'.p } ∧
      ∀ g, g ≠ f → t'.flag g = t.flag g

/-- Every step keeps memory canonical and holds a fault record exactly in the Faulted mode. R33 says when a record is held; that mode and record are two fields is the model's (log entry 16). The canonical form of memory is the model's choice, no rule of the spec (log entry 1). -/
def Obligations.StepKeepsTheInvariant : Prop :=
  ∀ s t : State, s.Inv → step s = .next t → t.Inv

/-- load, reset and run keep the invariant; load and reset give it from any canonical memory. R33: load and reset clear the record, whatever the mode (log entry 11). The canonical form of memory (log entry 1) and the fuel of run (log entry 8) are the model's choices, no rules of the spec. -/
def Obligations.HostOperationsKeepTheInvariant : Prop :=
  (∀ s : State, s.mem.wf = true → s.hostReset.Inv) ∧
  (∀ (program : List Byte) (s t : State), s.mem.wf = true → hostLoad program s = .next t → t.Inv) ∧
  (∀ (fuel : Nat) (s t : State) (r : FaultRecord), s.Inv →
    hostRun fuel s = .ok t ∨ hostRun fuel s = .err r t ∨ hostRun fuel s = .outOfFuel t → t.Inv)

/-- The reset state has the invariant and is the reset of a power-on state with nothing in memory. What memory reads as in State.reset, and so its PC, is the model's choice (log entries 1 and 2). -/
def Obligations.ResetHasTheInvariant : Prop :=
  State.reset.Inv ∧ State.reset.BreakBitsFixed ∧
  ∀ r : InitRegs, (State.powerOn Config.ners r []).hostReset = State.reset

/-- After a reset of any state, P.BA = 0 and P.BB = 1 at every later step. The derived sentences of R26 and R27. -/
def Obligations.BreakBitsStayFixed : Prop :=
  (∀ s t : State, s.BreakBitsFixed → step s = .next t → t.BreakBitsFixed) ∧
  ∀ (s t : State) (k : Nat), Host.Core.run Sys2Proof.core k s.hostReset = .next t → t.BreakBitsFixed

/-- reset(): A, X, Y zero, SP 0xFD, P 0x24, PC from the vector, mode Running, memory kept. R174, from any prior state. -/
def Obligations.ResetValues : Prop :=
  ∀ s : State, s.hostReset = { s with
    a := 0x00, x := 0x00, y := 0x00, sp := 0xFD, p := 0x24, pc := s.read 0xFFFD ++ s.read 0xFFFC, mode := .running,
    faultRecord := none }

/-- load(): program bytes from 0x8000, the reset vector, PC = 0x8000, registers kept; too long is refused. R173, for every program and every state. -/
def Obligations.LoadWritesProgramAndVector : Prop :=
  ∀ (program : List Byte) (s : State),
    (program.length ≤ 0x8000 → ∃ t, hostLoad program s = .next t ∧
      t = { s with mem := t.mem, pc := 0x8000, mode := .running, faultRecord := none } ∧
      ∀ a : Addr, t.read a =
        if s.cfg.loadWritesVector = true ∧ a = 0xFFFC then 0x00
        else if s.cfg.loadWritesVector = true ∧ a = 0xFFFD then 0x80
        else if 0x8000 ≤ a.toNat ∧ a.toNat < 0x8000 + program.length then program.getD (a.toNat - 0x8000) 0x00
        else s.read a) ∧
    (0x8000 < program.length → hostLoad program s = .refused (.programTooLong program.length))

/-- run in Idle or Faulted, and load of more than 0x8000 bytes, are refused. R179: a refused operation changes no state. -/
def Obligations.RefusedHostOperations : Prop :=
  ∀ (s : State) (fuel : Nat) (program : List Byte),
    (s.mode = .idle → hostRun fuel s = .refused .runWhileIdle) ∧
    (s.mode = .faulted → hostRun fuel s = .refused .runWhileFaulted) ∧
    (0x8000 < program.length → hostLoad program s = .refused (.programTooLong program.length))

/-- run repeats Step until a halt or a fault, from Running or, resuming at PC, from Halted. R175, with the fuel of an executor (R183). -/
def Obligations.RunReturnsAtHaltOrFault : Prop :=
  ∀ (s t : State) (fuel : Nat),
    (s.mode = .halted → hostRun fuel s = hostRun fuel { s with mode := .running }) ∧
    (s.mode = .running → step s = .next t →
      (t.mode = .halted → hostRun (fuel + 1) s = .ok t) ∧
      (t.mode = .faulted → ∃ r, t.faultRecord = some r ∧ hostRun (fuel + 1) s = .err r t) ∧
      (t.mode = .running → hostRun (fuel + 1) s = hostRun fuel t))

/-- loadAndRun starts at the reset vector, 0x8000 where load writes it, with the reset registers; a program too long is refused. The derived sentences of R176, for both values of the parameter. The refusal is the model's reading (log entry 12), and the fuel is the executor's (log entry 8). -/
def Obligations.LoadAndRunStartsAtTheResetVector : Prop :=
  ∀ (program : List Byte) (s : State) (fuel : Nat),
    (program.length ≤ 0x8000 → ∃ t u, hostLoad program s = .next t ∧ hostLoadAndRun fuel program s = hostRun fuel u ∧
      u = { s with a := 0x00, x := 0x00, y := 0x00, sp := 0xFD, p := 0x24, pc := u.pc, mem := t.mem, mode := .running,
                   faultRecord := none } ∧
      (s.cfg.loadWritesVector = true → u.pc = 0x8000) ∧
      (s.cfg.loadWritesVector = false → u.pc = t.read 0xFFFD ++ t.read 0xFFFC) ∧
      (s.cfg.loadWritesVector = false → program.length ≤ 0x7FFC → u.pc = s.read 0xFFFD ++ s.read 0xFFFC)) ∧
    (0x8000 < program.length → hostLoadAndRun fuel program s = .refused (.programTooLong program.length))

/-- A run from Running halts, faults or hangs: exactly one of the three, whatever the fuel. R171 and R183. The fuel is the executor's, the model's choice (log entry 8). -/
def Obligations.RunsEndInOneOfThreeWays : Prop :=
  (∀ s : State, s.mode = .running →
    (Halts s ∧ ¬ Faults s ∧ ¬ Hangs s) ∨ (¬ Halts s ∧ Faults s ∧ ¬ Hangs s) ∨ (¬ Halts s ∧ ¬ Faults s ∧ Hangs s)) ∧
  (∀ (s t : State) (fuel more : Nat) (r : FaultRecord),
    (runLoop fuel s = .ok t → runLoop (fuel + more) s = .ok t) ∧
    (runLoop fuel s = .err r t → runLoop (fuel + more) s = .err r t))

/-- A store is seen by the next fetch, as the opcode or an operand byte, for every instruction that stores. R53: one array, no cache, no prefetch; the operand and pointer bytes are read before the store, so address and byte come from the state before. -/
def Obligations.StoresAreSeenByTheNextFetch : Prop :=
  (∀ (i : Instr) (s t : State), exec i s = .next t →
    (i.storedBytes s).map Prod.fst = i.storedAddrs s ∧
    ∀ ea v, (ea, v) ∈ i.storedBytes s → ∀ u : State, u.mem = t.mem →
      (u.pc = ea → u.fetchInstr = decodeBytes v (u.read (ea + 1)) (u.read (ea + 2))) ∧
      (u.pc + 1 = ea → u.fetchInstr = decodeBytes (u.read u.pc) v (u.read (ea + 1))) ∧
      (u.pc + 2 = ea → u.fetchInstr = decodeBytes (u.read u.pc) (u.read (u.pc + 1)) v)) ∧
  (∀ (i : Instr) (s u : State), s.mode = .running → s.fetchInstr = some i →
    i.executesUnder s.cfg.execProfile = true → step s = .next u → ∃ t, exec i s.fetched = .next t ∧ u.mem = t.mem)

/-- The rel8 byte of a label is the one whose branch goes to that label, and no other is. The rel8 of R66 beside the target of R144. That the difference of R66 is taken modulo 65536, so that a label across 0xFFFF has an offset, is the model's reading (log entry 17). -/
def Obligations.BranchOffsetsReachTheirLabel : Prop :=
  ∀ (s : State) (label : Addr) (rel : Byte), branchOffset (s.pc - 1) label = some rel ↔ s.branchTarget rel = label
end

