-- ==== Sys2Proof/Laws/State.lean ====
section
/-! SUPPORT. What each named update of the state does to each field, so that no proof unfolds a record update. -/

namespace Sys2Proof.Machine

namespace State

variable (s : State)

@[simp] theorem setPc_a (v : Addr) : (s.setPc v).a = s.a := rfl
@[simp] theorem setPc_x (v : Addr) : (s.setPc v).x = s.x := rfl
@[simp] theorem setPc_y (v : Addr) : (s.setPc v).y = s.y := rfl
@[simp] theorem setPc_sp (v : Addr) : (s.setPc v).sp = s.sp := rfl
@[simp] theorem setPc_p (v : Addr) : (s.setPc v).p = s.p := rfl
@[simp] theorem setPc_pc (v : Addr) : (s.setPc v).pc = v := rfl
@[simp] theorem setPc_mem (v : Addr) : (s.setPc v).mem = s.mem := rfl
@[simp] theorem setPc_mode (v : Addr) : (s.setPc v).mode = s.mode := rfl
@[simp] theorem setPc_faultRecord (v : Addr) : (s.setPc v).faultRecord = s.faultRecord := rfl
@[simp] theorem setPc_cfg (v : Addr) : (s.setPc v).cfg = s.cfg := rfl

@[simp] theorem setP_a (v : Byte) : (s.setP v).a = s.a := rfl
@[simp] theorem setP_x (v : Byte) : (s.setP v).x = s.x := rfl
@[simp] theorem setP_y (v : Byte) : (s.setP v).y = s.y := rfl
@[simp] theorem setP_sp (v : Byte) : (s.setP v).sp = s.sp := rfl
@[simp] theorem setP_p (v : Byte) : (s.setP v).p = v := rfl
@[simp] theorem setP_pc (v : Byte) : (s.setP v).pc = s.pc := rfl
@[simp] theorem setP_mem (v : Byte) : (s.setP v).mem = s.mem := rfl
@[simp] theorem setP_mode (v : Byte) : (s.setP v).mode = s.mode := rfl
@[simp] theorem setP_faultRecord (v : Byte) : (s.setP v).faultRecord = s.faultRecord := rfl
@[simp] theorem setP_cfg (v : Byte) : (s.setP v).cfg = s.cfg := rfl

@[simp] theorem setFlag_a (f : Flag) (b : Bool) : (s.setFlag f b).a = s.a := rfl
@[simp] theorem setFlag_x (f : Flag) (b : Bool) : (s.setFlag f b).x = s.x := rfl
@[simp] theorem setFlag_y (f : Flag) (b : Bool) : (s.setFlag f b).y = s.y := rfl
@[simp] theorem setFlag_sp (f : Flag) (b : Bool) : (s.setFlag f b).sp = s.sp := rfl
@[simp] theorem setFlag_p (f : Flag) (b : Bool) : (s.setFlag f b).p = putFlag s.p f b := rfl
@[simp] theorem setFlag_pc (f : Flag) (b : Bool) : (s.setFlag f b).pc = s.pc := rfl
@[simp] theorem setFlag_mem (f : Flag) (b : Bool) : (s.setFlag f b).mem = s.mem := rfl
@[simp] theorem setFlag_mode (f : Flag) (b : Bool) : (s.setFlag f b).mode = s.mode := rfl
@[simp] theorem setFlag_faultRecord (f : Flag) (b : Bool) : (s.setFlag f b).faultRecord = s.faultRecord := rfl
@[simp] theorem setFlag_cfg (f : Flag) (b : Bool) : (s.setFlag f b).cfg = s.cfg := rfl

@[simp] theorem setNZ_a (r : Byte) : (s.setNZ r).a = s.a := rfl
@[simp] theorem setNZ_x (r : Byte) : (s.setNZ r).x = s.x := rfl
@[simp] theorem setNZ_y (r : Byte) : (s.setNZ r).y = s.y := rfl
@[simp] theorem setNZ_sp (r : Byte) : (s.setNZ r).sp = s.sp := rfl
@[simp] theorem setNZ_p (r : Byte) : (s.setNZ r).p = putNZ s.p r := rfl
@[simp] theorem setNZ_pc (r : Byte) : (s.setNZ r).pc = s.pc := rfl
@[simp] theorem setNZ_mem (r : Byte) : (s.setNZ r).mem = s.mem := rfl
@[simp] theorem setNZ_mode (r : Byte) : (s.setNZ r).mode = s.mode := rfl
@[simp] theorem setNZ_faultRecord (r : Byte) : (s.setNZ r).faultRecord = s.faultRecord := rfl
@[simp] theorem setNZ_cfg (r : Byte) : (s.setNZ r).cfg = s.cfg := rfl

@[simp] theorem write_a (ea : Addr) (v : Byte) : (s.write ea v).a = s.a := rfl
@[simp] theorem write_x (ea : Addr) (v : Byte) : (s.write ea v).x = s.x := rfl
@[simp] theorem write_y (ea : Addr) (v : Byte) : (s.write ea v).y = s.y := rfl
@[simp] theorem write_sp (ea : Addr) (v : Byte) : (s.write ea v).sp = s.sp := rfl
@[simp] theorem write_p (ea : Addr) (v : Byte) : (s.write ea v).p = s.p := rfl
@[simp] theorem write_pc (ea : Addr) (v : Byte) : (s.write ea v).pc = s.pc := rfl
@[simp] theorem write_mem (ea : Addr) (v : Byte) : (s.write ea v).mem = s.mem.write ea.toNat v := rfl
@[simp] theorem write_mode (ea : Addr) (v : Byte) : (s.write ea v).mode = s.mode := rfl
@[simp] theorem write_faultRecord (ea : Addr) (v : Byte) : (s.write ea v).faultRecord = s.faultRecord := rfl
@[simp] theorem write_cfg (ea : Addr) (v : Byte) : (s.write ea v).cfg = s.cfg := rfl

@[simp] theorem push_a (v : Byte) : (s.push v).a = s.a := rfl
@[simp] theorem push_x (v : Byte) : (s.push v).x = s.x := rfl
@[simp] theorem push_y (v : Byte) : (s.push v).y = s.y := rfl
@[simp] theorem push_sp (v : Byte) : (s.push v).sp = s.sp - 1 := rfl
@[simp] theorem push_p (v : Byte) : (s.push v).p = s.p := rfl
@[simp] theorem push_pc (v : Byte) : (s.push v).pc = s.pc := rfl
@[simp] theorem push_mem (v : Byte) : (s.push v).mem = s.mem.write (stackAddr s.sp).toNat v := rfl
@[simp] theorem push_mode (v : Byte) : (s.push v).mode = s.mode := rfl
@[simp] theorem push_faultRecord (v : Byte) : (s.push v).faultRecord = s.faultRecord := rfl
@[simp] theorem push_cfg (v : Byte) : (s.push v).cfg = s.cfg := rfl

@[simp] theorem popped_a : (s.popped).a = s.a := rfl
@[simp] theorem popped_x : (s.popped).x = s.x := rfl
@[simp] theorem popped_y : (s.popped).y = s.y := rfl
@[simp] theorem popped_sp : (s.popped).sp = s.sp + 1 := rfl
@[simp] theorem popped_p : (s.popped).p = s.p := rfl
@[simp] theorem popped_pc : (s.popped).pc = s.pc := rfl
@[simp] theorem popped_mem : (s.popped).mem = s.mem := rfl
@[simp] theorem popped_mode : (s.popped).mode = s.mode := rfl
@[simp] theorem popped_faultRecord : (s.popped).faultRecord = s.faultRecord := rfl
@[simp] theorem popped_cfg : (s.popped).cfg = s.cfg := rfl

@[simp] theorem fetched_a : (s.fetched).a = s.a := rfl
@[simp] theorem fetched_x : (s.fetched).x = s.x := rfl
@[simp] theorem fetched_y : (s.fetched).y = s.y := rfl
@[simp] theorem fetched_sp : (s.fetched).sp = s.sp := rfl
@[simp] theorem fetched_p : (s.fetched).p = s.p := rfl
@[simp] theorem fetched_pc : (s.fetched).pc = s.pc + 1 := rfl
@[simp] theorem fetched_mem : (s.fetched).mem = s.mem := rfl
@[simp] theorem fetched_mode : (s.fetched).mode = s.mode := rfl
@[simp] theorem fetched_faultRecord : (s.fetched).faultRecord = s.faultRecord := rfl
@[simp] theorem fetched_cfg : (s.fetched).cfg = s.cfg := rfl

@[simp] theorem halt_a : (s.halt).a = s.a := rfl
@[simp] theorem halt_x : (s.halt).x = s.x := rfl
@[simp] theorem halt_y : (s.halt).y = s.y := rfl
@[simp] theorem halt_sp : (s.halt).sp = s.sp := rfl
@[simp] theorem halt_p : (s.halt).p = s.p := rfl
@[simp] theorem halt_pc : (s.halt).pc = s.pc := rfl
@[simp] theorem halt_mem : (s.halt).mem = s.mem := rfl
@[simp] theorem halt_mode : (s.halt).mode = .halted := rfl
@[simp] theorem halt_faultRecord : (s.halt).faultRecord = s.faultRecord := rfl
@[simp] theorem halt_cfg : (s.halt).cfg = s.cfg := rfl

@[simp] theorem clearFault_a : (s.clearFault).a = s.a := rfl
@[simp] theorem clearFault_x : (s.clearFault).x = s.x := rfl
@[simp] theorem clearFault_y : (s.clearFault).y = s.y := rfl
@[simp] theorem clearFault_sp : (s.clearFault).sp = s.sp := rfl
@[simp] theorem clearFault_p : (s.clearFault).p = s.p := rfl
@[simp] theorem clearFault_pc : (s.clearFault).pc = s.pc := rfl
@[simp] theorem clearFault_mem : (s.clearFault).mem = s.mem := rfl
@[simp] theorem clearFault_mode : (s.clearFault).mode = .running := rfl
@[simp] theorem clearFault_faultRecord : (s.clearFault).faultRecord = none := rfl
@[simp] theorem clearFault_cfg : (s.clearFault).cfg = s.cfg := rfl

@[simp] theorem hostReset_a : (s.hostReset).a = 0x00 := rfl
@[simp] theorem hostReset_x : (s.hostReset).x = 0x00 := rfl
@[simp] theorem hostReset_y : (s.hostReset).y = 0x00 := rfl
@[simp] theorem hostReset_sp : (s.hostReset).sp = 0xFD := rfl
@[simp] theorem hostReset_p : (s.hostReset).p = 0x24 := rfl
@[simp] theorem hostReset_pc : (s.hostReset).pc = s.readWord resetVector := rfl
@[simp] theorem hostReset_mem : (s.hostReset).mem = s.mem := rfl
@[simp] theorem hostReset_mode : (s.hostReset).mode = .running := rfl
@[simp] theorem hostReset_faultRecord : (s.hostReset).faultRecord = none := rfl
@[simp] theorem hostReset_cfg : (s.hostReset).cfg = s.cfg := rfl

theorem setReg_a (r : Reg) (v : Byte) : (s.setReg r v).a = if r = .a then v else s.a := by cases r <;> rfl
theorem setReg_x (r : Reg) (v : Byte) : (s.setReg r v).x = if r = .x then v else s.x := by cases r <;> rfl
theorem setReg_y (r : Reg) (v : Byte) : (s.setReg r v).y = if r = .y then v else s.y := by cases r <;> rfl
theorem setReg_sp (r : Reg) (v : Byte) : (s.setReg r v).sp = if r = .sp then v else s.sp := by cases r <;> rfl
@[simp] theorem setReg_p (r : Reg) (v : Byte) : (s.setReg r v).p = s.p := by cases r <;> rfl
@[simp] theorem setReg_pc (r : Reg) (v : Byte) : (s.setReg r v).pc = s.pc := by cases r <;> rfl
@[simp] theorem setReg_mem (r : Reg) (v : Byte) : (s.setReg r v).mem = s.mem := by cases r <;> rfl
@[simp] theorem setReg_mode (r : Reg) (v : Byte) : (s.setReg r v).mode = s.mode := by cases r <;> rfl
@[simp] theorem setReg_faultRecord (r : Reg) (v : Byte) : (s.setReg r v).faultRecord = s.faultRecord := by cases r <;> rfl
@[simp] theorem setReg_cfg (r : Reg) (v : Byte) : (s.setReg r v).cfg = s.cfg := by cases r <;> rfl

@[simp] theorem setReg_a_a (v : Byte) : (s.setReg .a v).a = v := rfl
@[simp] theorem setReg_a_x (v : Byte) : (s.setReg .a v).x = s.x := rfl
@[simp] theorem setReg_a_y (v : Byte) : (s.setReg .a v).y = s.y := rfl
@[simp] theorem setReg_a_sp (v : Byte) : (s.setReg .a v).sp = s.sp := rfl
@[simp] theorem setReg_a_p (v : Byte) : (s.setReg .a v).p = s.p := rfl
@[simp] theorem setReg_a_pc (v : Byte) : (s.setReg .a v).pc = s.pc := rfl
@[simp] theorem setReg_a_mem (v : Byte) : (s.setReg .a v).mem = s.mem := rfl
@[simp] theorem setReg_a_mode (v : Byte) : (s.setReg .a v).mode = s.mode := rfl
@[simp] theorem setReg_a_faultRecord (v : Byte) : (s.setReg .a v).faultRecord = s.faultRecord := rfl
@[simp] theorem setReg_a_cfg (v : Byte) : (s.setReg .a v).cfg = s.cfg := rfl
@[simp] theorem setReg_x_a (v : Byte) : (s.setReg .x v).a = s.a := rfl
@[simp] theorem setReg_x_x (v : Byte) : (s.setReg .x v).x = v := rfl
@[simp] theorem setReg_x_y (v : Byte) : (s.setReg .x v).y = s.y := rfl
@[simp] theorem setReg_x_sp (v : Byte) : (s.setReg .x v).sp = s.sp := rfl
@[simp] theorem setReg_x_p (v : Byte) : (s.setReg .x v).p = s.p := rfl
@[simp] theorem setReg_x_pc (v : Byte) : (s.setReg .x v).pc = s.pc := rfl
@[simp] theorem setReg_x_mem (v : Byte) : (s.setReg .x v).mem = s.mem := rfl
@[simp] theorem setReg_x_mode (v : Byte) : (s.setReg .x v).mode = s.mode := rfl
@[simp] theorem setReg_x_faultRecord (v : Byte) : (s.setReg .x v).faultRecord = s.faultRecord := rfl
@[simp] theorem setReg_x_cfg (v : Byte) : (s.setReg .x v).cfg = s.cfg := rfl
@[simp] theorem setReg_y_a (v : Byte) : (s.setReg .y v).a = s.a := rfl
@[simp] theorem setReg_y_x (v : Byte) : (s.setReg .y v).x = s.x := rfl
@[simp] theorem setReg_y_y (v : Byte) : (s.setReg .y v).y = v := rfl
@[simp] theorem setReg_y_sp (v : Byte) : (s.setReg .y v).sp = s.sp := rfl
@[simp] theorem setReg_y_p (v : Byte) : (s.setReg .y v).p = s.p := rfl
@[simp] theorem setReg_y_pc (v : Byte) : (s.setReg .y v).pc = s.pc := rfl
@[simp] theorem setReg_y_mem (v : Byte) : (s.setReg .y v).mem = s.mem := rfl
@[simp] theorem setReg_y_mode (v : Byte) : (s.setReg .y v).mode = s.mode := rfl
@[simp] theorem setReg_y_faultRecord (v : Byte) : (s.setReg .y v).faultRecord = s.faultRecord := rfl
@[simp] theorem setReg_y_cfg (v : Byte) : (s.setReg .y v).cfg = s.cfg := rfl
@[simp] theorem setReg_sp_a (v : Byte) : (s.setReg .sp v).a = s.a := rfl
@[simp] theorem setReg_sp_x (v : Byte) : (s.setReg .sp v).x = s.x := rfl
@[simp] theorem setReg_sp_y (v : Byte) : (s.setReg .sp v).y = s.y := rfl
@[simp] theorem setReg_sp_sp (v : Byte) : (s.setReg .sp v).sp = v := rfl
@[simp] theorem setReg_sp_p (v : Byte) : (s.setReg .sp v).p = s.p := rfl
@[simp] theorem setReg_sp_pc (v : Byte) : (s.setReg .sp v).pc = s.pc := rfl
@[simp] theorem setReg_sp_mem (v : Byte) : (s.setReg .sp v).mem = s.mem := rfl
@[simp] theorem setReg_sp_mode (v : Byte) : (s.setReg .sp v).mode = s.mode := rfl
@[simp] theorem setReg_sp_faultRecord (v : Byte) : (s.setReg .sp v).faultRecord = s.faultRecord := rfl
@[simp] theorem setReg_sp_cfg (v : Byte) : (s.setReg .sp v).cfg = s.cfg := rfl

@[simp] theorem getReg_a : s.getReg .a = s.a := rfl
@[simp] theorem getReg_x : s.getReg .x = s.x := rfl
@[simp] theorem getReg_y : s.getReg .y = s.y := rfl
@[simp] theorem getReg_sp : s.getReg .sp = s.sp := rfl

/-- A register reads as what was last written to it; the others are left alone (10_state.md R20). -/
theorem getReg_setReg (r q : Reg) (v : Byte) : (s.setReg r v).getReg q = if q = r then v else s.getReg q := by
  cases r <;> cases q <;> rfl

end State

@[simp] theorem raise_a (k : FaultKind) (op : Byte) (pc : Addr) (s : State) : (raise k op pc s).a = s.a := rfl
@[simp] theorem raise_x (k : FaultKind) (op : Byte) (pc : Addr) (s : State) : (raise k op pc s).x = s.x := rfl
@[simp] theorem raise_y (k : FaultKind) (op : Byte) (pc : Addr) (s : State) : (raise k op pc s).y = s.y := rfl
@[simp] theorem raise_sp (k : FaultKind) (op : Byte) (pc : Addr) (s : State) : (raise k op pc s).sp = s.sp := rfl
@[simp] theorem raise_p (k : FaultKind) (op : Byte) (pc : Addr) (s : State) : (raise k op pc s).p = s.p := rfl
@[simp] theorem raise_pc (k : FaultKind) (op : Byte) (pc : Addr) (s : State) : (raise k op pc s).pc = s.pc := rfl
@[simp] theorem raise_mem (k : FaultKind) (op : Byte) (pc : Addr) (s : State) : (raise k op pc s).mem = s.mem := rfl
@[simp] theorem raise_mode (k : FaultKind) (op : Byte) (pc : Addr) (s : State) : (raise k op pc s).mode = .faulted := rfl
@[simp] theorem raise_faultRecord (k : FaultKind) (op : Byte) (pc : Addr) (s : State) : (raise k op pc s).faultRecord = some ⟨k, op, pc⟩ := rfl
@[simp] theorem raise_cfg (k : FaultKind) (op : Byte) (pc : Addr) (s : State) : (raise k op pc s).cfg = s.cfg := rfl

/-- `fetch_pc` is recovered from the state after the fetch. -/
@[simp] theorem State.fetched_fetchPc (s : State) : s.fetched.fetchPc = s.pc := by
  exact BitVec.add_sub_cancel s.pc 1

/-- The state a fault leaves is the fault taken at the state after the opcode fetch. -/
theorem faultedState_eq (k : FaultKind) (s : State) : faultedState k s = raise k (s.read s.pc) s.pc s.fetched := rfl

end Sys2Proof.Machine
end

