-- ==== Sys2Proof/Laws/Flags.lean ====
section
/-! SUPPORT. One lemma per flag computation: what each of the eight flags reads as afterwards. -/

namespace Sys2Proof.Machine

/-- A flag reads as what was last written to it; the others are left alone. -/
theorem getFlag_putFlag (p : Byte) (f g : Flag) (b : Bool) :
    getFlag (putFlag p f b) g = if g = f then b else getFlag p g := by
  cases f <;> cases g <;> cases b <;> simp [getFlag, putFlag, Flag.mask, Flag.bit]

/-- The eight flags are the whole byte. -/
theorem byte_eq_of_flags (p q : Byte) (h : ∀ f, getFlag p f = getFlag q f) : p = q := by
  apply BitVec.eq_of_getLsbD_eq
  intro i hi
  have hf : ∃ f : Flag, f.bit = i := by
    match i, hi with
    | 0, _ => exact ⟨.C, rfl⟩
    | 1, _ => exact ⟨.Z, rfl⟩
    | 2, _ => exact ⟨.I, rfl⟩
    | 3, _ => exact ⟨.D, rfl⟩
    | 4, _ => exact ⟨.BA, rfl⟩
    | 5, _ => exact ⟨.BB, rfl⟩
    | 6, _ => exact ⟨.V, rfl⟩
    | 7, _ => exact ⟨.N, rfl⟩
  obtain ⟨f, rfl⟩ := hf
  exact h f

/-- SetNZ (10_state.md R30) writes Z and N and no other flag. -/
theorem getFlag_putNZ (p r : Byte) (f : Flag) :
    getFlag (putNZ p r) f = if f = .N then r.getLsbD 7 else if f = .Z then r == 0x00 else getFlag p f := by
  simp only [putNZ, getFlag_putFlag]

/-- ADC and SBC write C, V, Z and N. -/
theorem getFlag_putSum (p : Byte) (t : Sum) (f : Flag) :
    getFlag (putSum p t) f = if f = .N then t.result.getLsbD 7 else if f = .Z then t.result == 0x00
      else if f = .V then t.overflow else if f = .C then t.carry else getFlag p f := by
  simp only [putSum, getFlag_putNZ, getFlag_putFlag]

/-- The comparator (43_alu.md R103) writes C, Z and N. -/
theorem getFlag_putCompare (p r m : Byte) (f : Flag) :
    getFlag (putCompare p r m) f = if f = .N then (r - m).getLsbD 7 else if f = .Z then r - m == 0x00
      else if f = .C then decide (m.toNat ≤ r.toNat) else getFlag p f := by
  simp only [putCompare, getFlag_putNZ, getFlag_putFlag]

/-- BIT (43_alu.md R113) writes V, N and Z. -/
theorem getFlag_putBitTest (p a m : Byte) (f : Flag) :
    getFlag (putBitTest p a m) f = if f = .V then m.getLsbD 6 else if f = .N then m.getLsbD 7
      else if f = .Z then a &&& m == 0x00 else getFlag p f := by
  simp only [putBitTest, getFlag_putFlag]

/-- A shift (45_shift.md R122) writes C, Z and N. -/
theorem getFlag_putShifted (p : Byte) (t : Shifted) (f : Flag) :
    getFlag (putShifted p t) f = if f = .N then t.result.getLsbD 7 else if f = .Z then t.result == 0x00
      else if f = .C then t.out else getFlag p f := by
  simp only [putShifted, getFlag_putNZ, getFlag_putFlag]

/-- P loaded from the stack (47_stack.md R137): BA = 0, BB = 1, the rest from the pulled byte. -/
theorem getFlag_statusFromStack (b : Byte) (f : Flag) :
    getFlag (statusFromStack b) f = if f = .BA then false else if f = .BB then true else getFlag b f := by
  cases f <;> simp [getFlag, statusFromStack, Flag.bit]

/-- P as PHP pushes it (47_stack.md R135): both break bits set. -/
theorem getFlag_statusToStack (p : Byte) (f : Flag) :
    getFlag (statusToStack p) f = if f = .BA then true else if f = .BB then true else getFlag p f := by
  cases f <;> simp [getFlag, statusToStack, Flag.bit]

end Sys2Proof.Machine
end

