-- ==== Sys2Proof/Laws/Memory.lean ====
section
/-! SUPPORT. The laws of memory: read after write, and the canonical form, which every operation keeps. -/

namespace Sys2Proof.Machine.Memory

/-! ## Read after write -/

@[simp] theorem read_nil (a : Nat) : read [] a = unlisted := rfl

theorem read_cons (k : Nat) (v : Byte) (m : Memory) (a : Nat) :
    read ((k, v) :: m) a = if k = a then v else m.read a := rfl

theorem read_erase (m : Memory) (a b : Nat) : (m.erase a).read b = if a = b then unlisted else m.read b := by
  induction m with
  | nil => simp [erase]
  | cons c m ih =>
    obtain ⟨k, v⟩ := c
    simp only [erase, read_cons]
    by_cases hab : a = b
    · subst hab; split <;> simp_all [read_cons]
    · split
      · rename_i hk; subst hk; simp [ih, hab]
      · simp [read_cons, ih, hab]

theorem read_insert_ne (m : Memory) (a b : Nat) (v : Byte) (h : a ≠ b) : (m.insert a v).read b = m.read b := by
  induction m with
  | nil => simp [insert, read_cons, h]
  | cons c m ih =>
    obtain ⟨k, w⟩ := c
    simp only [insert]
    split
    · simp [read_cons, h]
    · simp [read_cons, ih]

theorem read_insert_erase (m : Memory) (a : Nat) (v : Byte) : ((m.erase a).insert a v).read a = v := by
  induction m with
  | nil => simp [erase, insert, read_cons]
  | cons c m ih =>
    obtain ⟨k, w⟩ := c
    simp only [erase]
    split
    · exact ih
    · rename_i hk
      simp only [insert]
      split
      · simp [read_cons]
      · simp [read_cons, hk, ih]

/-- What a byte reads as after a store: the stored byte at the stored address, the old byte anywhere else. It holds of
every list of cells, canonical or not. -/
theorem read_write (m : Memory) (a b : Nat) (v : Byte) : (m.write a v).read b = if a = b then v else m.read b := by
  unfold write
  split
  · rename_i hv; rw [read_erase, hv]
  · split
    · rename_i hab; subst hab; exact read_insert_erase m a v
    · rename_i hab; rw [read_insert_ne _ _ _ _ hab, read_erase, if_neg hab]

@[simp] theorem read_write_self (m : Memory) (a : Nat) (v : Byte) : (m.write a v).read a = v := by
  simp [read_write]

theorem read_write_ne (m : Memory) (a b : Nat) (v : Byte) (h : a ≠ b) : (m.write a v).read b = m.read b := by
  simp [read_write, h]

/-! ## The canonical form -/

theorem wfFrom_cons (lo k : Nat) (v : Byte) (m : Memory) :
    wfFrom lo ((k, v) :: m) = true ↔ lo ≤ k ∧ k < 65536 ∧ v ≠ unlisted ∧ m.wfFrom (k + 1) = true := by
  simp [wfFrom, Bool.and_eq_true, and_assoc]

theorem wfFrom_mono (m : Memory) (lo lo' : Nat) (h : lo' ≤ lo) (hm : m.wfFrom lo = true) : m.wfFrom lo' = true := by
  cases m with
  | nil => rfl
  | cons c m =>
    obtain ⟨k, v⟩ := c
    rw [wfFrom_cons] at hm ⊢
    exact ⟨Nat.le_trans h hm.1, hm.2⟩

theorem wfFrom_erase (m : Memory) (a lo : Nat) (hm : m.wfFrom lo = true) : (m.erase a).wfFrom lo = true := by
  induction m generalizing lo with
  | nil => rfl
  | cons c m ih =>
    obtain ⟨k, v⟩ := c
    rw [wfFrom_cons] at hm
    simp only [erase]
    split
    · exact ih lo (wfFrom_mono m (k + 1) lo (by omega) hm.2.2.2)
    · rw [wfFrom_cons]; exact ⟨hm.1, hm.2.1, hm.2.2.1, ih (k + 1) hm.2.2.2⟩

/-- After erasing, no cell is at the erased address. -/
theorem mem_erase_ne (m : Memory) (a : Nat) : ∀ c ∈ m.erase a, c.1 ≠ a := by
  induction m with
  | nil => simp [erase]
  | cons c m ih =>
    obtain ⟨k, v⟩ := c
    simp only [erase]
    split
    · exact ih
    · rename_i hk
      intro c hc
      rcases List.mem_cons.mp hc with rfl | h
      · exact hk
      · exact ih c h

theorem wfFrom_insert (m : Memory) (a lo : Nat) (v : Byte) (hm : m.wfFrom lo = true) (hne : ∀ c ∈ m, c.1 ≠ a)
    (hlo : lo ≤ a) (ha : a < 65536) (hv : v ≠ unlisted) : (m.insert a v).wfFrom lo = true := by
  induction m generalizing lo with
  | nil => simp [insert, wfFrom, hlo, ha, hv]
  | cons c m ih =>
    obtain ⟨k, w⟩ := c
    have hk : k ≠ a := hne (k, w) (by simp)
    rw [wfFrom_cons] at hm
    simp only [insert]
    split
    · rw [wfFrom_cons, wfFrom_cons]; exact ⟨hlo, ha, hv, by omega, hm.2⟩
    · rw [wfFrom_cons]
      exact ⟨hm.1, hm.2.1, hm.2.2.1, ih (k + 1) hm.2.2.2 (fun c hc => hne c (by simp [hc])) (by omega)⟩

/-- A store keeps the canonical form. -/
theorem wf_write (m : Memory) (a : Addr) (v : Byte) (hm : m.wf = true) : (m.write a.toNat v).wf = true := by
  unfold write
  split
  · exact wfFrom_erase m _ 0 hm
  · rename_i hv
    exact wfFrom_insert _ _ 0 v (wfFrom_erase m _ 0 hm) (mem_erase_ne m _) (Nat.zero_le _) a.isLt hv

/-- The memory of `State.reset` has the canonical form. -/
theorem wf_nil : wf [] = true := rfl

/-- A cell listed from `lo` up is not below `lo`. -/
theorem read_below (m : Memory) (lo a : Nat) (hm : m.wfFrom lo = true) (h : a < lo) : m.read a = unlisted := by
  induction m generalizing lo with
  | nil => rfl
  | cons c m ih =>
    obtain ⟨k, v⟩ := c
    rw [wfFrom_cons] at hm
    rw [read_cons, if_neg (by omega), ih (k + 1) hm.2.2.2 (by omega)]

end Sys2Proof.Machine.Memory

namespace Sys2Proof.Machine.State

/-- What a byte reads as after a store (20_memory.md R38, R39). -/
theorem read_write (s : State) (a b : Addr) (v : Byte) : (s.write a v).read b = if a = b then v else s.read b := by
  simp only [State.read, write_mem, Memory.read_write, BitVec.toNat_inj]

@[simp] theorem read_write_self (s : State) (a : Addr) (v : Byte) : (s.write a v).read a = v := by
  simp [read_write]

/-- A read depends on memory only. -/
theorem read_congr (s t : State) (h : t.mem = s.mem) (a : Addr) : t.read a = s.read a := by
  simp only [State.read, h]

@[simp] theorem read_setReg (s : State) (r : Reg) (v : Byte) (a : Addr) : (s.setReg r v).read a = s.read a :=
  read_congr _ _ (setReg_mem s r v) a

@[simp] theorem read_setPc (s : State) (v a : Addr) : (s.setPc v).read a = s.read a := rfl

@[simp] theorem read_setP (s : State) (v : Byte) (a : Addr) : (s.setP v).read a = s.read a := rfl

@[simp] theorem read_setNZ (s : State) (v : Byte) (a : Addr) : (s.setNZ v).read a = s.read a := rfl

@[simp] theorem read_popped (s : State) (a : Addr) : s.popped.read a = s.read a := rfl

@[simp] theorem read_fetched (s : State) (a : Addr) : s.fetched.read a = s.read a := rfl

/-- What a byte reads as after a push (20_memory.md R48). -/
theorem read_push (s : State) (v : Byte) (a : Addr) :
    (s.push v).read a = if stackAddr s.sp = a then v else s.read a := by
  simp only [State.push, read_setReg, read_write]

/-- A store keeps the canonical form. -/
theorem wf_write (s : State) (a : Addr) (v : Byte) (h : s.mem.wf = true) : (s.write a v).mem.wf = true :=
  Memory.wf_write s.mem a v h

/-- A push keeps the canonical form. -/
theorem wf_push (s : State) (v : Byte) (h : s.mem.wf = true) : (s.push v).mem.wf = true :=
  Memory.wf_write s.mem _ v h

/-- A word store keeps the canonical form. -/
theorem wf_writeWord (s : State) (a v : Addr) (h : s.mem.wf = true) : (s.writeWord a v).mem.wf = true :=
  wf_write _ _ _ (wf_write s a _ h)

end Sys2Proof.Machine.State
end

