-- ==== Sys2Proof/Laws/Exec.lean ====
section
/-! SUPPORT. One lemma per shared operation that says everything it can do: what it answers when its operand has an address
or a value, and, where it can end in more than one way, all the ways. Provers cite these and do not unfold. -/

namespace Sys2Proof

open Machine

/-- A form has an effective address exactly when its mode is one of the nine memory modes (40_controller_resolver.md R85). -/
theorem Operand.address_isSome (o : Operand) (s : State) :
    (o.address s).isSome = true ↔ o.form.mode ≠ .noneAddressing := by
  cases o <;> simp [Operand.address, Operand.form, Form.mode]

/-- Likewise for the operand byte. -/
theorem Operand.value_isSome (o : Operand) (s : State) :
    (o.value s).isSome = true ↔ o.form.mode ≠ .noneAddressing := by
  cases o <;> simp [Operand.value, Operand.address, Operand.form, Form.mode]

/-- Outside Immediate the operand byte is the one at the effective address (R86). -/
theorem Operand.value_eq_read (o : Operand) (s : State) (h : o.form ≠ .immediate) :
    o.value s = (o.address s).map s.read := by
  cases o <;> first | rfl | exact absurd rfl h

/-- The literal byte of the Immediate form. -/
@[simp] theorem Operand.value_immediate (imm : Byte) (s : State) : (Operand.immediate imm).value s = some imm := rfl

namespace Machine

theorem withValue_some {i : Instr} {s : State} {m : Byte} (k : Byte → State) (h : i.operand.value s = some m) :
    withValue i s k = .next (k m) := by
  simp only [withValue, h]

theorem withAddress_some {i : Instr} {s : State} {ea : Addr} (k : Addr → State) (h : i.operand.address s = some ea) :
    withAddress i s k = .next (k ea) := by
  simp only [withAddress, h]

/-- A reading instruction always answers a next state: its effect, or the InvalidAddressingUse of a form without a
memory mode. -/
theorem withValue_cases {i : Instr} {s t : State} {k : Byte → State} (h : withValue i s k = .next t) :
    (∃ m, i.operand.value s = some m ∧ t = k m) ∨
    (i.operand.value s = none ∧ t = raise .invalidAddressingUse i.opcode s.fetchPc s) := by
  unfold withValue at h
  split at h
  · rename_i m hm; exact .inl ⟨m, hm, by simpa using h.symm⟩
  · rename_i hn; exact .inr ⟨hn, by simpa using h.symm⟩

/-- The same for an instruction that works at its effective address. -/
theorem withAddress_cases {i : Instr} {s t : State} {k : Addr → State} (h : withAddress i s k = .next t) :
    (∃ ea, i.operand.address s = some ea ∧ t = k ea) ∨
    (i.operand.address s = none ∧ t = raise .invalidAddressingUse i.opcode s.fetchPc s) := by
  unfold withAddress at h
  split at h
  · rename_i ea hea; exact .inl ⟨ea, hea, by simpa using h.symm⟩
  · rename_i hn; exact .inr ⟨hn, by simpa using h.symm⟩

theorem load_eq {r : Reg} {i : Instr} {s : State} {m : Byte} (h : i.operand.value s = some m) :
    load r i s = .next ((s.setReg r m).setNZ m) := withValue_some _ h

theorem store_eq {r : Reg} {i : Instr} {s : State} {ea : Addr} (h : i.operand.address s = some ea) :
    store r i s = .next (s.write ea (s.getReg r)) := withAddress_some _ h

theorem logic_eq {f : Byte → Byte → Byte} {i : Instr} {s : State} {m : Byte} (h : i.operand.value s = some m) :
    logic f i s = .next ((s.setReg .a (f s.a m)).setNZ (f s.a m)) := withValue_some _ h

theorem compareReg_eq {r : Reg} {i : Instr} {s : State} {m : Byte} (h : i.operand.value s = some m) :
    compareReg r i s = .next (s.setP (putCompare s.p (s.getReg r) m)) := withValue_some _ h

theorem bitTest_eq {i : Instr} {s : State} {m : Byte} (h : i.operand.value s = some m) :
    bitTest i s = .next (s.setP (putBitTest s.p s.a m)) := withValue_some _ h

/-- ADC (43_alu.md R105), where the decimal check does not refuse. -/
theorem adc_eq {i : Instr} {s : State} {m : Byte} (h : i.operand.value s = some m) (hd : s.decimalRefused = false) :
    adc i s = .next (s.setSum (add8 s.a m (s.flag .C))) := by
  simp [adc, withValue_some _ h, State.orDecimalFault, hd]

/-- SBC (R106), where the decimal check does not refuse. -/
theorem sbc_eq {i : Instr} {s : State} {m : Byte} (h : i.operand.value s = some m) (hd : s.decimalRefused = false) :
    sbc i s = .next (s.setSum (add8 s.a (~~~m) (s.flag .C))) := by
  simp [sbc, withValue_some _ h, State.orDecimalFault, hd]

/-- A refused decimal operation (R114). -/
theorem adc_refused {i : Instr} {s : State} {m : Byte} (h : i.operand.value s = some m) (hd : s.decimalRefused = true) :
    adc i s = .next (raise .unimplementedOpcode i.opcode s.fetchPc s) := by
  simp [adc, withValue_some _ h, State.orDecimalFault, hd]

/-- A refused decimal operation (R114). -/
theorem sbc_refused {i : Instr} {s : State} {m : Byte} (h : i.operand.value s = some m) (hd : s.decimalRefused = true) :
    sbc i s = .next (raise .unimplementedOpcode i.opcode s.fetchPc s) := by
  simp [sbc, withValue_some _ h, State.orDecimalFault, hd]

theorem readModifyWrite_eq {f : Byte → Byte} {i : Instr} {s : State} {ea : Addr} (h : i.operand.address s = some ea) :
    readModifyWrite f i s = .next ((s.write ea (f (s.read ea))).setNZ (f (s.read ea))) := withAddress_some _ h

/-- A shift in Accumulator form (45_shift.md R122). -/
theorem shift_acc {f : Byte → Bool → Shifted} {i : Instr} {s : State} (h : i.operand = .accumulator) :
    shift f i s = .next ((s.setReg .a (f s.a (s.flag .C)).result).setP (putShifted s.p (f s.a (s.flag .C)))) := by
  simp only [shift, h]

/-- A shift in a memory form (R122). -/
theorem shift_mem {f : Byte → Bool → Shifted} {i : Instr} {s : State} {ea : Addr} (h : i.operand.address s = some ea) :
    shift f i s = .next ((s.write ea (f (s.read ea) (s.flag .C)).result).setP
      (putShifted s.p (f (s.read ea) (s.flag .C)))) := by
  unfold shift
  split
  · rename_i ha; rw [ha] at h; simp [Operand.address] at h
  · exact withAddress_some _ h

/-- The end of a step whose instruction left the mode Running and is no control transfer (40_controller_resolver.md R72). -/
theorem finishStep_advance {i : Instr} {s : State} (hm : s.mode = .running) (hc : i.isControlTransfer = false) :
    finishStep i s = s.setPc (s.pc + BitVec.ofNat 16 i.width) := by
  simp [finishStep, hm, hc]

/-- A control transfer, a halt or a fault is not advanced. -/
theorem finishStep_stay {i : Instr} {s : State} (h : s.mode ≠ .running ∨ i.isControlTransfer = true) :
    finishStep i s = s := by
  rcases h with h | h <;> simp [finishStep, h]

/-- The end of a step changes PC at most. -/
theorem finishStep_setPc (i : Instr) (s : State) : ∃ v, finishStep i s = s.setPc v := by
  unfold finishStep
  split
  · exact ⟨_, rfl⟩
  · exact ⟨s.pc, rfl⟩

/-- A Running step ends in one of three ways: the opcode byte has no entry, its row does not execute under the profile,
or the instruction executes and the step ends with `finishResult`. -/
theorem step_running {s : State} (h : s.mode = .running) :
    (s.fetchInstr = none ∧ step s = .next (faultedState .unrecognizedOpcode s)) ∨
    (∃ i, s.fetchInstr = some i ∧ i.executesUnder s.cfg.execProfile = false ∧
      step s = .next (faultedState .unimplementedOpcode s)) ∨
    (∃ i, s.fetchInstr = some i ∧ i.executesUnder s.cfg.execProfile = true ∧
      step s = finishResult i (exec i s.fetched)) := by
  simp only [step, controllerStep, h, runningStep, faultedState_eq]
  cases hf : s.fetchInstr with
  | none => exact .inl ⟨rfl, rfl⟩
  | some i =>
    cases he : i.executesUnder s.cfg.execProfile with
    | false => exact .inr (.inl ⟨i, rfl, he, by simp [he]⟩)
    | true => exact .inr (.inr ⟨i, rfl, he, by simp [he]⟩)

/-- Outside the Running mode no step is enabled (R74). -/
theorem step_notRunning {s : State} (h : s.mode ≠ .running) : step s = .fault (.noEnabledStep s.mode) := by
  cases hm : s.mode <;> simp_all [step, controllerStep]

end Machine

end Sys2Proof
end

