-- ==== Sys2Proof/Laws/PerInstr.lean ====
section
/-! SUPPORT. A family of facts about instructions as syntax, one lemma per constructor of `Instr`. -/

namespace Sys2Proof.Laws.TableRow

/-- The opcode table's row for the instruction's opcode byte is the instruction's own: its mnemonic, its operand form and
the length of its encoding; and the instruction is well formed (30_encoding.md R55 to R61). -/
def Statement (i : Instr) : Prop :=
  (lookup i.opcode).map (fun r => (r.mnemonic, r.form, r.length)) = some (i.mnemonic, i.form, i.length) ∧
  (encode i).length = i.length ∧ i.wellFormed = true

/-- The statement for an instruction whose opcode byte is written out. -/
theorem of_row {i : Instr} (op : Byte) (hop : i.opcode = op)
    (hrow : (lookup op).map (fun r => (r.mnemonic, r.form, r.length)) = some (i.mnemonic, i.form, i.length))
    (hlen : (encode i).length = i.length) (hwf : i.wellFormed = true) : Statement i :=
  ⟨hop ▸ hrow, hlen, hwf⟩

theorem ldaIndX (zp : Byte) : Statement (.ldaIndX zp) := of_row 0xA1 rfl rfl rfl rfl
theorem ldaZp (zp : Byte) : Statement (.ldaZp zp) := of_row 0xA5 rfl rfl rfl rfl
theorem ldaImm (imm : Byte) : Statement (.ldaImm imm) := of_row 0xA9 rfl rfl rfl rfl
theorem ldaAbs (addr : Addr) : Statement (.ldaAbs addr) := of_row 0xAD rfl rfl rfl rfl
theorem ldaIndY (zp : Byte) : Statement (.ldaIndY zp) := of_row 0xB1 rfl rfl rfl rfl
theorem ldaZpX (zp : Byte) : Statement (.ldaZpX zp) := of_row 0xB5 rfl rfl rfl rfl
theorem ldaAbsY (addr : Addr) : Statement (.ldaAbsY addr) := of_row 0xB9 rfl rfl rfl rfl
theorem ldaAbsX (addr : Addr) : Statement (.ldaAbsX addr) := of_row 0xBD rfl rfl rfl rfl
theorem ldxImm (imm : Byte) : Statement (.ldxImm imm) := of_row 0xA2 rfl rfl rfl rfl
theorem ldxZp (zp : Byte) : Statement (.ldxZp zp) := of_row 0xA6 rfl rfl rfl rfl
theorem ldxAbs (addr : Addr) : Statement (.ldxAbs addr) := of_row 0xAE rfl rfl rfl rfl
theorem ldxZpY (zp : Byte) : Statement (.ldxZpY zp) := of_row 0xB6 rfl rfl rfl rfl
theorem ldxAbsY (addr : Addr) : Statement (.ldxAbsY addr) := of_row 0xBE rfl rfl rfl rfl
theorem ldyImm (imm : Byte) : Statement (.ldyImm imm) := of_row 0xA0 rfl rfl rfl rfl
theorem ldyZp (zp : Byte) : Statement (.ldyZp zp) := of_row 0xA4 rfl rfl rfl rfl
theorem ldyAbs (addr : Addr) : Statement (.ldyAbs addr) := of_row 0xAC rfl rfl rfl rfl
theorem ldyZpX (zp : Byte) : Statement (.ldyZpX zp) := of_row 0xB4 rfl rfl rfl rfl
theorem ldyAbsX (addr : Addr) : Statement (.ldyAbsX addr) := of_row 0xBC rfl rfl rfl rfl
theorem staIndX (zp : Byte) : Statement (.staIndX zp) := of_row 0x81 rfl rfl rfl rfl
theorem staZp (zp : Byte) : Statement (.staZp zp) := of_row 0x85 rfl rfl rfl rfl
theorem staAbs (addr : Addr) : Statement (.staAbs addr) := of_row 0x8D rfl rfl rfl rfl
theorem staIndY (zp : Byte) : Statement (.staIndY zp) := of_row 0x91 rfl rfl rfl rfl
theorem staZpX (zp : Byte) : Statement (.staZpX zp) := of_row 0x95 rfl rfl rfl rfl
theorem staAbsY (addr : Addr) : Statement (.staAbsY addr) := of_row 0x99 rfl rfl rfl rfl
theorem staAbsX (addr : Addr) : Statement (.staAbsX addr) := of_row 0x9D rfl rfl rfl rfl
theorem stxZp (zp : Byte) : Statement (.stxZp zp) := of_row 0x86 rfl rfl rfl rfl
theorem stxAbs (addr : Addr) : Statement (.stxAbs addr) := of_row 0x8E rfl rfl rfl rfl
theorem stxZpY (zp : Byte) : Statement (.stxZpY zp) := of_row 0x96 rfl rfl rfl rfl
theorem styZp (zp : Byte) : Statement (.styZp zp) := of_row 0x84 rfl rfl rfl rfl
theorem styAbs (addr : Addr) : Statement (.styAbs addr) := of_row 0x8C rfl rfl rfl rfl
theorem styZpX (zp : Byte) : Statement (.styZpX zp) := of_row 0x94 rfl rfl rfl rfl
theorem tax : Statement .tax := of_row 0xAA rfl rfl rfl rfl
theorem tay : Statement .tay := of_row 0xA8 rfl rfl rfl rfl
theorem txa : Statement .txa := of_row 0x8A rfl rfl rfl rfl
theorem tya : Statement .tya := of_row 0x98 rfl rfl rfl rfl
theorem tsx : Statement .tsx := of_row 0xBA rfl rfl rfl rfl
theorem txs : Statement .txs := of_row 0x9A rfl rfl rfl rfl
theorem adcIndX (zp : Byte) : Statement (.adcIndX zp) := of_row 0x61 rfl rfl rfl rfl
theorem adcZp (zp : Byte) : Statement (.adcZp zp) := of_row 0x65 rfl rfl rfl rfl
theorem adcImm (imm : Byte) : Statement (.adcImm imm) := of_row 0x69 rfl rfl rfl rfl
theorem adcAbs (addr : Addr) : Statement (.adcAbs addr) := of_row 0x6D rfl rfl rfl rfl
theorem adcIndY (zp : Byte) : Statement (.adcIndY zp) := of_row 0x71 rfl rfl rfl rfl
theorem adcZpX (zp : Byte) : Statement (.adcZpX zp) := of_row 0x75 rfl rfl rfl rfl
theorem adcAbsY (addr : Addr) : Statement (.adcAbsY addr) := of_row 0x79 rfl rfl rfl rfl
theorem adcAbsX (addr : Addr) : Statement (.adcAbsX addr) := of_row 0x7D rfl rfl rfl rfl
theorem sbcIndX (zp : Byte) : Statement (.sbcIndX zp) := of_row 0xE1 rfl rfl rfl rfl
theorem sbcZp (zp : Byte) : Statement (.sbcZp zp) := of_row 0xE5 rfl rfl rfl rfl
theorem sbcImm (imm : Byte) : Statement (.sbcImm imm) := of_row 0xE9 rfl rfl rfl rfl
theorem sbcAbs (addr : Addr) : Statement (.sbcAbs addr) := of_row 0xED rfl rfl rfl rfl
theorem sbcIndY (zp : Byte) : Statement (.sbcIndY zp) := of_row 0xF1 rfl rfl rfl rfl
theorem sbcZpX (zp : Byte) : Statement (.sbcZpX zp) := of_row 0xF5 rfl rfl rfl rfl
theorem sbcAbsY (addr : Addr) : Statement (.sbcAbsY addr) := of_row 0xF9 rfl rfl rfl rfl
theorem sbcAbsX (addr : Addr) : Statement (.sbcAbsX addr) := of_row 0xFD rfl rfl rfl rfl
theorem andIndX (zp : Byte) : Statement (.andIndX zp) := of_row 0x21 rfl rfl rfl rfl
theorem andZp (zp : Byte) : Statement (.andZp zp) := of_row 0x25 rfl rfl rfl rfl
theorem andImm (imm : Byte) : Statement (.andImm imm) := of_row 0x29 rfl rfl rfl rfl
theorem andAbs (addr : Addr) : Statement (.andAbs addr) := of_row 0x2D rfl rfl rfl rfl
theorem andIndY (zp : Byte) : Statement (.andIndY zp) := of_row 0x31 rfl rfl rfl rfl
theorem andZpX (zp : Byte) : Statement (.andZpX zp) := of_row 0x35 rfl rfl rfl rfl
theorem andAbsY (addr : Addr) : Statement (.andAbsY addr) := of_row 0x39 rfl rfl rfl rfl
theorem andAbsX (addr : Addr) : Statement (.andAbsX addr) := of_row 0x3D rfl rfl rfl rfl
theorem oraIndX (zp : Byte) : Statement (.oraIndX zp) := of_row 0x01 rfl rfl rfl rfl
theorem oraZp (zp : Byte) : Statement (.oraZp zp) := of_row 0x05 rfl rfl rfl rfl
theorem oraImm (imm : Byte) : Statement (.oraImm imm) := of_row 0x09 rfl rfl rfl rfl
theorem oraAbs (addr : Addr) : Statement (.oraAbs addr) := of_row 0x0D rfl rfl rfl rfl
theorem oraIndY (zp : Byte) : Statement (.oraIndY zp) := of_row 0x11 rfl rfl rfl rfl
theorem oraZpX (zp : Byte) : Statement (.oraZpX zp) := of_row 0x15 rfl rfl rfl rfl
theorem oraAbsY (addr : Addr) : Statement (.oraAbsY addr) := of_row 0x19 rfl rfl rfl rfl
theorem oraAbsX (addr : Addr) : Statement (.oraAbsX addr) := of_row 0x1D rfl rfl rfl rfl
theorem eorIndX (zp : Byte) : Statement (.eorIndX zp) := of_row 0x41 rfl rfl rfl rfl
theorem eorZp (zp : Byte) : Statement (.eorZp zp) := of_row 0x45 rfl rfl rfl rfl
theorem eorImm (imm : Byte) : Statement (.eorImm imm) := of_row 0x49 rfl rfl rfl rfl
theorem eorAbs (addr : Addr) : Statement (.eorAbs addr) := of_row 0x4D rfl rfl rfl rfl
theorem eorIndY (zp : Byte) : Statement (.eorIndY zp) := of_row 0x51 rfl rfl rfl rfl
theorem eorZpX (zp : Byte) : Statement (.eorZpX zp) := of_row 0x55 rfl rfl rfl rfl
theorem eorAbsY (addr : Addr) : Statement (.eorAbsY addr) := of_row 0x59 rfl rfl rfl rfl
theorem eorAbsX (addr : Addr) : Statement (.eorAbsX addr) := of_row 0x5D rfl rfl rfl rfl
theorem cmpIndX (zp : Byte) : Statement (.cmpIndX zp) := of_row 0xC1 rfl rfl rfl rfl
theorem cmpZp (zp : Byte) : Statement (.cmpZp zp) := of_row 0xC5 rfl rfl rfl rfl
theorem cmpImm (imm : Byte) : Statement (.cmpImm imm) := of_row 0xC9 rfl rfl rfl rfl
theorem cmpAbs (addr : Addr) : Statement (.cmpAbs addr) := of_row 0xCD rfl rfl rfl rfl
theorem cmpIndY (zp : Byte) : Statement (.cmpIndY zp) := of_row 0xD1 rfl rfl rfl rfl
theorem cmpZpX (zp : Byte) : Statement (.cmpZpX zp) := of_row 0xD5 rfl rfl rfl rfl
theorem cmpAbsY (addr : Addr) : Statement (.cmpAbsY addr) := of_row 0xD9 rfl rfl rfl rfl
theorem cmpAbsX (addr : Addr) : Statement (.cmpAbsX addr) := of_row 0xDD rfl rfl rfl rfl
theorem cpxImm (imm : Byte) : Statement (.cpxImm imm) := of_row 0xE0 rfl rfl rfl rfl
theorem cpxZp (zp : Byte) : Statement (.cpxZp zp) := of_row 0xE4 rfl rfl rfl rfl
theorem cpxAbs (addr : Addr) : Statement (.cpxAbs addr) := of_row 0xEC rfl rfl rfl rfl
theorem cpyImm (imm : Byte) : Statement (.cpyImm imm) := of_row 0xC0 rfl rfl rfl rfl
theorem cpyZp (zp : Byte) : Statement (.cpyZp zp) := of_row 0xC4 rfl rfl rfl rfl
theorem cpyAbs (addr : Addr) : Statement (.cpyAbs addr) := of_row 0xCC rfl rfl rfl rfl
theorem bitZp (zp : Byte) : Statement (.bitZp zp) := of_row 0x24 rfl rfl rfl rfl
theorem bitAbs (addr : Addr) : Statement (.bitAbs addr) := of_row 0x2C rfl rfl rfl rfl
theorem incZp (zp : Byte) : Statement (.incZp zp) := of_row 0xE6 rfl rfl rfl rfl
theorem incAbs (addr : Addr) : Statement (.incAbs addr) := of_row 0xEE rfl rfl rfl rfl
theorem incZpX (zp : Byte) : Statement (.incZpX zp) := of_row 0xF6 rfl rfl rfl rfl
theorem incAbsX (addr : Addr) : Statement (.incAbsX addr) := of_row 0xFE rfl rfl rfl rfl
theorem decZp (zp : Byte) : Statement (.decZp zp) := of_row 0xC6 rfl rfl rfl rfl
theorem decAbs (addr : Addr) : Statement (.decAbs addr) := of_row 0xCE rfl rfl rfl rfl
theorem decZpX (zp : Byte) : Statement (.decZpX zp) := of_row 0xD6 rfl rfl rfl rfl
theorem decAbsX (addr : Addr) : Statement (.decAbsX addr) := of_row 0xDE rfl rfl rfl rfl
theorem inx : Statement .inx := of_row 0xE8 rfl rfl rfl rfl
theorem iny : Statement .iny := of_row 0xC8 rfl rfl rfl rfl
theorem dex : Statement .dex := of_row 0xCA rfl rfl rfl rfl
theorem dey : Statement .dey := of_row 0x88 rfl rfl rfl rfl
theorem aslZp (zp : Byte) : Statement (.aslZp zp) := of_row 0x06 rfl rfl rfl rfl
theorem aslAcc : Statement .aslAcc := of_row 0x0A rfl rfl rfl rfl
theorem aslAbs (addr : Addr) : Statement (.aslAbs addr) := of_row 0x0E rfl rfl rfl rfl
theorem aslZpX (zp : Byte) : Statement (.aslZpX zp) := of_row 0x16 rfl rfl rfl rfl
theorem aslAbsX (addr : Addr) : Statement (.aslAbsX addr) := of_row 0x1E rfl rfl rfl rfl
theorem lsrZp (zp : Byte) : Statement (.lsrZp zp) := of_row 0x46 rfl rfl rfl rfl
theorem lsrAcc : Statement .lsrAcc := of_row 0x4A rfl rfl rfl rfl
theorem lsrAbs (addr : Addr) : Statement (.lsrAbs addr) := of_row 0x4E rfl rfl rfl rfl
theorem lsrZpX (zp : Byte) : Statement (.lsrZpX zp) := of_row 0x56 rfl rfl rfl rfl
theorem lsrAbsX (addr : Addr) : Statement (.lsrAbsX addr) := of_row 0x5E rfl rfl rfl rfl
theorem rolZp (zp : Byte) : Statement (.rolZp zp) := of_row 0x26 rfl rfl rfl rfl
theorem rolAcc : Statement .rolAcc := of_row 0x2A rfl rfl rfl rfl
theorem rolAbs (addr : Addr) : Statement (.rolAbs addr) := of_row 0x2E rfl rfl rfl rfl
theorem rolZpX (zp : Byte) : Statement (.rolZpX zp) := of_row 0x36 rfl rfl rfl rfl
theorem rolAbsX (addr : Addr) : Statement (.rolAbsX addr) := of_row 0x3E rfl rfl rfl rfl
theorem rorZp (zp : Byte) : Statement (.rorZp zp) := of_row 0x66 rfl rfl rfl rfl
theorem rorAcc : Statement .rorAcc := of_row 0x6A rfl rfl rfl rfl
theorem rorAbs (addr : Addr) : Statement (.rorAbs addr) := of_row 0x6E rfl rfl rfl rfl
theorem rorZpX (zp : Byte) : Statement (.rorZpX zp) := of_row 0x76 rfl rfl rfl rfl
theorem rorAbsX (addr : Addr) : Statement (.rorAbsX addr) := of_row 0x7E rfl rfl rfl rfl
theorem clc : Statement .clc := of_row 0x18 rfl rfl rfl rfl
theorem sec : Statement .sec := of_row 0x38 rfl rfl rfl rfl
theorem cli : Statement .cli := of_row 0x58 rfl rfl rfl rfl
theorem sei : Statement .sei := of_row 0x78 rfl rfl rfl rfl
theorem cld : Statement .cld := of_row 0xD8 rfl rfl rfl rfl
theorem sed : Statement .sed := of_row 0xF8 rfl rfl rfl rfl
theorem clv : Statement .clv := of_row 0xB8 rfl rfl rfl rfl
theorem pha : Statement .pha := of_row 0x48 rfl rfl rfl rfl
theorem php : Statement .php := of_row 0x08 rfl rfl rfl rfl
theorem pla : Statement .pla := of_row 0x68 rfl rfl rfl rfl
theorem plp : Statement .plp := of_row 0x28 rfl rfl rfl rfl
theorem jmpAbs (addr : Addr) : Statement (.jmpAbs addr) := of_row 0x4C rfl rfl rfl rfl
theorem jmpInd (addr : Addr) : Statement (.jmpInd addr) := of_row 0x6C rfl rfl rfl rfl
theorem jsr (addr : Addr) : Statement (.jsr addr) := of_row 0x20 rfl rfl rfl rfl
theorem rts : Statement .rts := of_row 0x60 rfl rfl rfl rfl
theorem rti : Statement .rti := of_row 0x40 rfl rfl rfl rfl
theorem bpl (rel : Byte) : Statement (.bpl rel) := of_row 0x10 rfl rfl rfl rfl
theorem bmi (rel : Byte) : Statement (.bmi rel) := of_row 0x30 rfl rfl rfl rfl
theorem bvc (rel : Byte) : Statement (.bvc rel) := of_row 0x50 rfl rfl rfl rfl
theorem bvs (rel : Byte) : Statement (.bvs rel) := of_row 0x70 rfl rfl rfl rfl
theorem bcc (rel : Byte) : Statement (.bcc rel) := of_row 0x90 rfl rfl rfl rfl
theorem bcs (rel : Byte) : Statement (.bcs rel) := of_row 0xB0 rfl rfl rfl rfl
theorem bne (rel : Byte) : Statement (.bne rel) := of_row 0xD0 rfl rfl rfl rfl
theorem beq (rel : Byte) : Statement (.beq rel) := of_row 0xF0 rfl rfl rfl rfl
theorem brk : Statement .brk := of_row 0x00 rfl rfl rfl rfl
theorem nop : Statement .nop := of_row 0xEA rfl rfl rfl rfl

end Sys2Proof.Laws.TableRow
end

