-- ==== Sys2Proof/Laws/Words.lean ====
section
/-! SUPPORT. The byte-order helpers as arithmetic: what `word`, `loByte`, `hiByte`, `zext16` and `sext16` are as numbers,
and that taking a word apart and putting it together again loses nothing. -/

namespace Sys2Proof

theorem word_toNat (h l : Byte) : (word h l).toNat = l.toNat + 256 * h.toNat := by
  have hl := l.isLt
  unfold word
  rw [BitVec.toNat_append, ← Nat.shiftLeft_add_eq_or_of_lt (by omega), Nat.shiftLeft_eq]
  omega

theorem loByte_toNat (v : Addr) : (loByte v).toNat = v.toNat % 256 := by
  unfold loByte
  simp [BitVec.extractLsb'_toNat]

theorem hiByte_toNat (v : Addr) : (hiByte v).toNat = v.toNat / 256 := by
  have hv := v.isLt
  unfold hiByte
  rw [BitVec.extractLsb'_toNat, Nat.shiftRight_eq_div_pow]
  omega

@[simp] theorem word_hiByte_loByte (v : Addr) : word (hiByte v) (loByte v) = v := by
  apply BitVec.eq_of_toNat_eq
  rw [word_toNat, loByte_toNat, hiByte_toNat]
  omega

@[simp] theorem loByte_word (h l : Byte) : loByte (word h l) = l := by
  have hl := l.isLt
  apply BitVec.eq_of_toNat_eq
  rw [loByte_toNat, word_toNat]
  omega

@[simp] theorem hiByte_word (h l : Byte) : hiByte (word h l) = h := by
  have hl := l.isLt
  have hh := h.isLt
  apply BitVec.eq_of_toNat_eq
  rw [hiByte_toNat, word_toNat]
  omega

theorem zext16_toNat (b : Byte) : (zext16 b).toNat = b.toNat := by
  have hb := b.isLt
  unfold zext16
  rw [BitVec.toNat_setWidth]
  omega

theorem sext16_toInt (b : Byte) : (sext16 b).toInt = b.toInt := by
  unfold sext16
  exact BitVec.toInt_signExtend_of_le (by decide)

end Sys2Proof
end

