-- ==== Sys2Proof/Tests/Slice0.lean ====
section
/-! SUPPORT. The model's own tests. Expected results are the spec's: the opcode bytes of 30_encoding.md R61, the vectors of
95_test_vectors.md, the text of R66. Then, for every statement with hypotheses, a state and operands that meet them. -/

namespace Sys2Proof.Tests

open Machine

/-! ## Ill-formed spellings are refused (30_encoding.md R61: no row) -/

/-- One spelling without a row for each list of `Mnemonic.forms`, the memory modes, the five other forms, and both sides
of the pairs that are easily confused: LDX takes Y, LDY takes X; no STA Immediate (0x89, V-LS-15). -/
def illFormed : List Spelling := [
  ⟨.LDA, .zeroPageY 0x10⟩, ⟨.LDA, .implied⟩, ⟨.ADC, .accumulator⟩, ⟨.LDX, .zeroPageX 0x10⟩, ⟨.LDX, .absoluteX 0x0200⟩,
  ⟨.LDY, .zeroPageY 0x10⟩, ⟨.LDY, .absoluteY 0x0200⟩, ⟨.STA, .immediate 0x10⟩, ⟨.STX, .zeroPageX 0x10⟩,
  ⟨.STX, .absoluteY 0x0200⟩, ⟨.STY, .zeroPageY 0x10⟩, ⟨.STY, .absoluteX 0x0200⟩, ⟨.TAX, .accumulator⟩, ⟨.CPX, .zeroPageX 0x10⟩,
  ⟨.CPY, .indirectY 0x10⟩, ⟨.BIT, .immediate 0x10⟩, ⟨.INC, .accumulator⟩, ⟨.DEC, .absoluteY 0x0200⟩,
  ⟨.ASL, .implied⟩, ⟨.ROR, .absoluteY 0x0200⟩, ⟨.JMP, .absolute 0x9000⟩, ⟨.JSR, .indirectTarget 0x9000⟩,
  ⟨.BEQ, .absoluteTarget 0x9000⟩, ⟨.NOP, .relative 0x10⟩, ⟨.BRK, .immediate 0x00⟩]

theorem test_illFormed_refused : illFormed.all (fun sp => !sp.wellFormed) = true := by decide

theorem test_illFormed_doNotAssemble : illFormed.all (fun sp => decide (assemble sp = none)) = true := by decide

/-! ## Decoding: every opcode byte of R61 in binary, an operand byte 0x80, an operand word 0x12F0 low byte first -/

/-- The bytes decode to the instruction, and leave the byte after them. -/
def decodesTo (c : List Byte × Instr) : Bool := decide (decode (c.1 ++ [0xFF]) = .ok c.2 [0xFF])

theorem test_decode_row0 : [
  ([0b00000000], Instr.brk),
  ([0b00000001, 0x80], Instr.oraIndX 0x80),
  ([0b00000101, 0x80], Instr.oraZp 0x80),
  ([0b00000110, 0x80], Instr.aslZp 0x80),
  ([0b00001000], Instr.php),
  ([0b00001001, 0x80], Instr.oraImm 0x80),
  ([0b00001010], Instr.aslAcc),
  ([0b00001101, 0xF0, 0x12], Instr.oraAbs 0x12F0),
  ([0b00001110, 0xF0, 0x12], Instr.aslAbs 0x12F0)].all decodesTo = true := by decide

theorem test_decode_row1 : [
  ([0b00010000, 0x80], Instr.bpl 0x80),
  ([0b00010001, 0x80], Instr.oraIndY 0x80),
  ([0b00010101, 0x80], Instr.oraZpX 0x80),
  ([0b00010110, 0x80], Instr.aslZpX 0x80),
  ([0b00011000], Instr.clc),
  ([0b00011001, 0xF0, 0x12], Instr.oraAbsY 0x12F0),
  ([0b00011101, 0xF0, 0x12], Instr.oraAbsX 0x12F0),
  ([0b00011110, 0xF0, 0x12], Instr.aslAbsX 0x12F0)].all decodesTo = true := by decide

theorem test_decode_row2 : [
  ([0b00100000, 0xF0, 0x12], Instr.jsr 0x12F0),
  ([0b00100001, 0x80], Instr.andIndX 0x80),
  ([0b00100100, 0x80], Instr.bitZp 0x80),
  ([0b00100101, 0x80], Instr.andZp 0x80),
  ([0b00100110, 0x80], Instr.rolZp 0x80),
  ([0b00101000], Instr.plp),
  ([0b00101001, 0x80], Instr.andImm 0x80),
  ([0b00101010], Instr.rolAcc),
  ([0b00101100, 0xF0, 0x12], Instr.bitAbs 0x12F0),
  ([0b00101101, 0xF0, 0x12], Instr.andAbs 0x12F0),
  ([0b00101110, 0xF0, 0x12], Instr.rolAbs 0x12F0)].all decodesTo = true := by decide

theorem test_decode_row3 : [
  ([0b00110000, 0x80], Instr.bmi 0x80),
  ([0b00110001, 0x80], Instr.andIndY 0x80),
  ([0b00110101, 0x80], Instr.andZpX 0x80),
  ([0b00110110, 0x80], Instr.rolZpX 0x80),
  ([0b00111000], Instr.sec),
  ([0b00111001, 0xF0, 0x12], Instr.andAbsY 0x12F0),
  ([0b00111101, 0xF0, 0x12], Instr.andAbsX 0x12F0),
  ([0b00111110, 0xF0, 0x12], Instr.rolAbsX 0x12F0)].all decodesTo = true := by decide

theorem test_decode_row4 : [
  ([0b01000000], Instr.rti),
  ([0b01000001, 0x80], Instr.eorIndX 0x80),
  ([0b01000101, 0x80], Instr.eorZp 0x80),
  ([0b01000110, 0x80], Instr.lsrZp 0x80),
  ([0b01001000], Instr.pha),
  ([0b01001001, 0x80], Instr.eorImm 0x80),
  ([0b01001010], Instr.lsrAcc),
  ([0b01001100, 0xF0, 0x12], Instr.jmpAbs 0x12F0),
  ([0b01001101, 0xF0, 0x12], Instr.eorAbs 0x12F0),
  ([0b01001110, 0xF0, 0x12], Instr.lsrAbs 0x12F0)].all decodesTo = true := by decide

theorem test_decode_row5 : [
  ([0b01010000, 0x80], Instr.bvc 0x80),
  ([0b01010001, 0x80], Instr.eorIndY 0x80),
  ([0b01010101, 0x80], Instr.eorZpX 0x80),
  ([0b01010110, 0x80], Instr.lsrZpX 0x80),
  ([0b01011000], Instr.cli),
  ([0b01011001, 0xF0, 0x12], Instr.eorAbsY 0x12F0),
  ([0b01011101, 0xF0, 0x12], Instr.eorAbsX 0x12F0),
  ([0b01011110, 0xF0, 0x12], Instr.lsrAbsX 0x12F0)].all decodesTo = true := by decide

theorem test_decode_row6 : [
  ([0b01100000], Instr.rts),
  ([0b01100001, 0x80], Instr.adcIndX 0x80),
  ([0b01100101, 0x80], Instr.adcZp 0x80),
  ([0b01100110, 0x80], Instr.rorZp 0x80),
  ([0b01101000], Instr.pla),
  ([0b01101001, 0x80], Instr.adcImm 0x80),
  ([0b01101010], Instr.rorAcc),
  ([0b01101100, 0xF0, 0x12], Instr.jmpInd 0x12F0),
  ([0b01101101, 0xF0, 0x12], Instr.adcAbs 0x12F0),
  ([0b01101110, 0xF0, 0x12], Instr.rorAbs 0x12F0)].all decodesTo = true := by decide

theorem test_decode_row7 : [
  ([0b01110000, 0x80], Instr.bvs 0x80),
  ([0b01110001, 0x80], Instr.adcIndY 0x80),
  ([0b01110101, 0x80], Instr.adcZpX 0x80),
  ([0b01110110, 0x80], Instr.rorZpX 0x80),
  ([0b01111000], Instr.sei),
  ([0b01111001, 0xF0, 0x12], Instr.adcAbsY 0x12F0),
  ([0b01111101, 0xF0, 0x12], Instr.adcAbsX 0x12F0),
  ([0b01111110, 0xF0, 0x12], Instr.rorAbsX 0x12F0)].all decodesTo = true := by decide

theorem test_decode_row8 : [
  ([0b10000001, 0x80], Instr.staIndX 0x80),
  ([0b10000100, 0x80], Instr.styZp 0x80),
  ([0b10000101, 0x80], Instr.staZp 0x80),
  ([0b10000110, 0x80], Instr.stxZp 0x80),
  ([0b10001000], Instr.dey),
  ([0b10001010], Instr.txa),
  ([0b10001100, 0xF0, 0x12], Instr.styAbs 0x12F0),
  ([0b10001101, 0xF0, 0x12], Instr.staAbs 0x12F0),
  ([0b10001110, 0xF0, 0x12], Instr.stxAbs 0x12F0)].all decodesTo = true := by decide

theorem test_decode_row9 : [
  ([0b10010000, 0x80], Instr.bcc 0x80),
  ([0b10010001, 0x80], Instr.staIndY 0x80),
  ([0b10010100, 0x80], Instr.styZpX 0x80),
  ([0b10010101, 0x80], Instr.staZpX 0x80),
  ([0b10010110, 0x80], Instr.stxZpY 0x80),
  ([0b10011000], Instr.tya),
  ([0b10011001, 0xF0, 0x12], Instr.staAbsY 0x12F0),
  ([0b10011010], Instr.txs),
  ([0b10011101, 0xF0, 0x12], Instr.staAbsX 0x12F0)].all decodesTo = true := by decide

theorem test_decode_rowA : [
  ([0b10100000, 0x80], Instr.ldyImm 0x80),
  ([0b10100001, 0x80], Instr.ldaIndX 0x80),
  ([0b10100010, 0x80], Instr.ldxImm 0x80),
  ([0b10100100, 0x80], Instr.ldyZp 0x80),
  ([0b10100101, 0x80], Instr.ldaZp 0x80),
  ([0b10100110, 0x80], Instr.ldxZp 0x80),
  ([0b10101000], Instr.tay),
  ([0b10101001, 0x80], Instr.ldaImm 0x80),
  ([0b10101010], Instr.tax),
  ([0b10101100, 0xF0, 0x12], Instr.ldyAbs 0x12F0),
  ([0b10101101, 0xF0, 0x12], Instr.ldaAbs 0x12F0),
  ([0b10101110, 0xF0, 0x12], Instr.ldxAbs 0x12F0)].all decodesTo = true := by decide

theorem test_decode_rowB : [
  ([0b10110000, 0x80], Instr.bcs 0x80),
  ([0b10110001, 0x80], Instr.ldaIndY 0x80),
  ([0b10110100, 0x80], Instr.ldyZpX 0x80),
  ([0b10110101, 0x80], Instr.ldaZpX 0x80),
  ([0b10110110, 0x80], Instr.ldxZpY 0x80),
  ([0b10111000], Instr.clv),
  ([0b10111001, 0xF0, 0x12], Instr.ldaAbsY 0x12F0),
  ([0b10111010], Instr.tsx),
  ([0b10111100, 0xF0, 0x12], Instr.ldyAbsX 0x12F0),
  ([0b10111101, 0xF0, 0x12], Instr.ldaAbsX 0x12F0),
  ([0b10111110, 0xF0, 0x12], Instr.ldxAbsY 0x12F0)].all decodesTo = true := by decide

theorem test_decode_rowC : [
  ([0b11000000, 0x80], Instr.cpyImm 0x80),
  ([0b11000001, 0x80], Instr.cmpIndX 0x80),
  ([0b11000100, 0x80], Instr.cpyZp 0x80),
  ([0b11000101, 0x80], Instr.cmpZp 0x80),
  ([0b11000110, 0x80], Instr.decZp 0x80),
  ([0b11001000], Instr.iny),
  ([0b11001001, 0x80], Instr.cmpImm 0x80),
  ([0b11001010], Instr.dex),
  ([0b11001100, 0xF0, 0x12], Instr.cpyAbs 0x12F0),
  ([0b11001101, 0xF0, 0x12], Instr.cmpAbs 0x12F0),
  ([0b11001110, 0xF0, 0x12], Instr.decAbs 0x12F0)].all decodesTo = true := by decide

theorem test_decode_rowD : [
  ([0b11010000, 0x80], Instr.bne 0x80),
  ([0b11010001, 0x80], Instr.cmpIndY 0x80),
  ([0b11010101, 0x80], Instr.cmpZpX 0x80),
  ([0b11010110, 0x80], Instr.decZpX 0x80),
  ([0b11011000], Instr.cld),
  ([0b11011001, 0xF0, 0x12], Instr.cmpAbsY 0x12F0),
  ([0b11011101, 0xF0, 0x12], Instr.cmpAbsX 0x12F0),
  ([0b11011110, 0xF0, 0x12], Instr.decAbsX 0x12F0)].all decodesTo = true := by decide

theorem test_decode_rowE : [
  ([0b11100000, 0x80], Instr.cpxImm 0x80),
  ([0b11100001, 0x80], Instr.sbcIndX 0x80),
  ([0b11100100, 0x80], Instr.cpxZp 0x80),
  ([0b11100101, 0x80], Instr.sbcZp 0x80),
  ([0b11100110, 0x80], Instr.incZp 0x80),
  ([0b11101000], Instr.inx),
  ([0b11101001, 0x80], Instr.sbcImm 0x80),
  ([0b11101010], Instr.nop),
  ([0b11101100, 0xF0, 0x12], Instr.cpxAbs 0x12F0),
  ([0b11101101, 0xF0, 0x12], Instr.sbcAbs 0x12F0),
  ([0b11101110, 0xF0, 0x12], Instr.incAbs 0x12F0)].all decodesTo = true := by decide

theorem test_decode_rowF : [
  ([0b11110000, 0x80], Instr.beq 0x80),
  ([0b11110001, 0x80], Instr.sbcIndY 0x80),
  ([0b11110101, 0x80], Instr.sbcZpX 0x80),
  ([0b11110110, 0x80], Instr.incZpX 0x80),
  ([0b11111000], Instr.sed),
  ([0b11111001, 0xF0, 0x12], Instr.sbcAbsY 0x12F0),
  ([0b11111101, 0xF0, 0x12], Instr.sbcAbsX 0x12F0),
  ([0b11111110, 0xF0, 0x12], Instr.incAbsX 0x12F0)].all decodesTo = true := by decide

theorem test_decode_unlisted : decode [0x02] = .unrecognizedOpcode 0x02 ∧ decode [0xFF] = .unrecognizedOpcode 0xFF :=
  ⟨rfl, rfl⟩

theorem test_decode_truncated : decode [0x8D, 0x00] = .truncated ∧ decode [0xA9] = .truncated := ⟨rfl, rfl⟩

/-- Bit 0 of the table's number is the least significant bit of the first byte; bits that are not given are zero. -/
theorem test_decodeTableWord : decodeTableWord 24 0x12F04C = some (.jmpAbs 0x12F0) ∧ decodeTableWord 8 0xA9 = some (.ldaImm 0x00) ∧
    decodeTableWord 8 0x02 = none := by decide

/-! ## Assembly text (30_encoding.md R66) -/

theorem test_text_examples : Instr.text (.ldaImm 0xC0) 0x8000 = "LDA #0xC0" ∧ Instr.text (.ldxZpY 0x44) 0x8000 = "LDX 0x44,Y" ∧
    Instr.text (.staAbsX 0x0200) 0x8000 = "STA 0x0200,X" ∧ Instr.text (.ldaIndX 0x20) 0x8000 = "LDA (0x20,X)" ∧
    Instr.text (.ldaIndY 0x20) 0x8000 = "LDA (0x20),Y" ∧ Instr.text .aslAcc 0x8000 = "ASL A" ∧
    Instr.text (.jmpInd 0xFFFC) 0x8000 = "JMP (0xFFFC)" := by decide

/-- Program P2: BNE at 0x8008 to 0x8005 is 0xFB; program P8: BNE at 0x800A to 0x8004 is 0xF8. -/
theorem test_branchOffset : branchOffset 0x8008 0x8005 = some 0xFB ∧ branchOffset 0x800A 0x8004 = some 0xF8 ∧
    branchOffset 0x8000 0x8082 = none := by decide

/-! ## The vectors of 95_test_vectors.md, one step each -/

/-- The start state of the vectors: after `loadAndRun`. -/
def base : State := { State.reset with pc := 0x8000 }

/-- The memory `m` with cells stored one by one. -/
def withCells : Memory → List (Nat × Byte) → Memory
  | m, [] => m
  | m, (a, v) :: cs => withCells (m.write a v) cs

/-- The instruction bytes at PC, wrapping past 0xFFFF. -/
def withBytes : State → Addr → List Byte → State
  | s, _, [] => s
  | s, a, b :: bs => withBytes (s.write a b) (a + 1) bs

/-- A row of the tables: the instruction's bytes, the start registers, the start cells, the cells that changed, and the
registers, mode and record that changed. -/
structure StepVector where
  bytes   : List Byte
  start   : State
  cells   : List (Nat × Byte)
  changed : List (Nat × Byte)
  regs    : State → State

/-- A result is the next state `t`. -/
def nextIs (r : Result) (t : State) : Bool :=
  match r with
  | .next u => decide (u = t)
  | .fault _ => false
  | .refused _ => false

theorem of_nextIs {r : Result} {t : State} (h : nextIs r t = true) : r = .next t := by
  unfold nextIs at h
  split at h
  · simpa using h
  · cases h
  · cases h

/-- The step does what the row says, and nothing else. -/
def StepVector.holds (v : StepVector) : Bool :=
  let s := withBytes { v.start with mem := withCells v.start.mem v.cells } v.start.pc v.bytes
  nextIs (step s) (v.regs { s with mem := withCells s.mem v.changed })

/-- Address resolver: V-RES-1 to V-RES-8 of 95_test_vectors.md. -/
def vectorsResolverA : List StepVector := [
  ⟨[0xA9, 0x7F], base, [], [],
   fun s => { s with a := 0x7F, pc := 0x8002 }⟩,
  ⟨[0xA5, 0x44], base, [(0x0044, 0x99)], [],
   fun s => { s with a := 0x99, p := 0xA4, pc := 0x8002 }⟩,
  ⟨[0xB5, 0xFF], { base with x := 0x01 }, [(0x0000, 0x5A)], [],
   fun s => { s with a := 0x5A, pc := 0x8002 }⟩,
  ⟨[0xB6, 0x80], { base with y := 0x90 }, [(0x0010, 0x33)], [],
   fun s => { s with x := 0x33, pc := 0x8002 }⟩,
  ⟨[0xAD, 0x00, 0x02], base, [(0x0200, 0x01)], [],
   fun s => { s with a := 0x01, pc := 0x8003 }⟩,
  ⟨[0xBD, 0xF0, 0x02], { base with x := 0x20 }, [(0x0310, 0x80)], [],
   fun s => { s with a := 0x80, p := 0xA4, pc := 0x8003 }⟩,
  ⟨[0xBD, 0xF0, 0xFF], { base with x := 0x20 }, [(0x0010, 0x00)], [],
   fun s => { s with p := 0x26, pc := 0x8003 }⟩,
  ⟨[0xB9, 0x34, 0x12], { base with y := 0xFF }, [(0x1333, 0x44)], [],
   fun s => { s with a := 0x44, pc := 0x8003 }⟩]

theorem test_vectorsResolverA : vectorsResolverA.all StepVector.holds = true := by decide

/-- Address resolver: V-RES-9 to V-RES-16 of 95_test_vectors.md. -/
def vectorsResolverB : List StepVector := [
  ⟨[0xA1, 0x20], { base with x := 0x04 }, [(0x0024, 0x74), (0x0025, 0x20), (0x2074, 0xC3)], [],
   fun s => { s with a := 0xC3, p := 0xA4, pc := 0x8002 }⟩,
  ⟨[0xA1, 0xFE], { base with x := 0x01 }, [(0x0000, 0x03), (0x00FF, 0x00), (0x0300, 0x11)], [],
   fun s => { s with a := 0x11, pc := 0x8002 }⟩,
  ⟨[0xB1, 0x86], { base with y := 0x10 }, [(0x0086, 0x28), (0x0087, 0x40), (0x4038, 0x0F)], [],
   fun s => { s with a := 0x0F, pc := 0x8002 }⟩,
  ⟨[0xB1, 0xFF], base, [(0x0000, 0x20), (0x00FF, 0x10), (0x2010, 0x01)], [],
   fun s => { s with a := 0x01, pc := 0x8002 }⟩,
  ⟨[0xB1, 0x40], { base with y := 0x01 }, [(0x0000, 0x22), (0x0040, 0xFF), (0x0041, 0xFF)], [],
   fun s => { s with a := 0x22, pc := 0x8002 }⟩,
  ⟨[0x91, 0x40], { base with a := 0x9C, y := 0x05 }, [(0x0040, 0x00), (0x0041, 0x03)], [(0x0305, 0x9C)],
   fun s => { s with pc := 0x8002 }⟩,
  ⟨[0xA1, 0x20], { base with x := 0x04, cfg := { Config.ners with execProfile := .sourceV7 } }, [], [],
   fun s => { s with pc := 0x8001, mode := .faulted, faultRecord := some ⟨.unimplementedOpcode, 0xA1, 0x8000⟩ }⟩,
  ⟨[0xAD, 0x00, 0x03], { base with pc := 0xFFFE }, [(0x0300, 0x66)], [],
   fun s => { s with a := 0x66, pc := 0x0001 }⟩]

theorem test_vectorsResolverB : vectorsResolverB.all StepVector.holds = true := by decide

/-- Loads and stores: V-LS-1 to V-LS-8 of 95_test_vectors.md. -/
def vectorsLoadStoreA : List StepVector := [
  ⟨[0xA9, 0x00], base, [], [],
   fun s => { s with p := 0x26, pc := 0x8002 }⟩,
  ⟨[0xA9, 0x80], base, [], [],
   fun s => { s with a := 0x80, p := 0xA4, pc := 0x8002 }⟩,
  ⟨[0xA9, 0xC0], base, [], [],
   fun s => { s with a := 0xC0, p := 0xA4, pc := 0x8002 }⟩,
  ⟨[0xA9, 0x01], { base with p := 0xE7 }, [], [],
   fun s => { s with a := 0x01, p := 0x65, pc := 0x8002 }⟩,
  ⟨[0xA2, 0xFF], base, [], [],
   fun s => { s with x := 0xFF, p := 0xA4, pc := 0x8002 }⟩,
  ⟨[0xBE, 0x00, 0x02], { base with y := 0x03 }, [(0x0203, 0x00)], [],
   fun s => { s with p := 0x26, pc := 0x8003 }⟩,
  ⟨[0xA0, 0x00], { base with p := 0xA4 }, [], [],
   fun s => { s with p := 0x26, pc := 0x8002 }⟩,
  ⟨[0xBC, 0xFF, 0x00], { base with x := 0x01 }, [(0x0100, 0x7E)], [],
   fun s => { s with y := 0x7E, pc := 0x8003 }⟩]

theorem test_vectorsLoadStoreA : vectorsLoadStoreA.all StepVector.holds = true := by decide

/-- Loads and stores: V-LS-9 to V-LS-15 of 95_test_vectors.md. -/
def vectorsLoadStoreB : List StepVector := [
  ⟨[0x8D, 0x00, 0x02], { base with a := 0x42, p := 0xA7 }, [], [(0x0200, 0x42)],
   fun s => { s with pc := 0x8003 }⟩,
  ⟨[0x95, 0xFF], { base with a := 0xAB, x := 0x01 }, [], [(0x0000, 0xAB)],
   fun s => { s with pc := 0x8002 }⟩,
  ⟨[0x99, 0xFF, 0xFF], { base with a := 0x01, y := 0x02 }, [], [(0x0001, 0x01)],
   fun s => { s with pc := 0x8003 }⟩,
  ⟨[0x96, 0xFF], { base with x := 0x05, y := 0x02 }, [], [(0x0001, 0x05)],
   fun s => { s with pc := 0x8002 }⟩,
  ⟨[0x8C, 0x34, 0x12], { base with y := 0x09 }, [], [(0x1234, 0x09)],
   fun s => { s with pc := 0x8003 }⟩,
  ⟨[0x86, 0x10], { base with x := 0x00, p := 0x24 }, [], [(0x0010, 0x00)],
   fun s => { s with pc := 0x8002 }⟩,
  ⟨[0x89, 0x00], base, [], [],
   fun s => { s with pc := 0x8001, mode := .faulted, faultRecord := some ⟨.unrecognizedOpcode, 0x89, 0x8000⟩ }⟩]

theorem test_vectorsLoadStoreB : vectorsLoadStoreB.all StepVector.holds = true := by decide

/-- Register transfers: V-TR-1 to V-TR-8 of 95_test_vectors.md. -/
def vectorsTransferA : List StepVector := [
  ⟨[0xAA], { base with a := 0x00, x := 0x55 }, [], [],
   fun s => { s with x := 0x00, p := 0x26, pc := 0x8001 }⟩,
  ⟨[0xAA], { base with a := 0xC0 }, [], [],
   fun s => { s with x := 0xC0, p := 0xA4, pc := 0x8001 }⟩,
  ⟨[0xA8], { base with a := 0x80 }, [], [],
   fun s => { s with y := 0x80, p := 0xA4, pc := 0x8001 }⟩,
  ⟨[0x8A], { base with x := 0xFF }, [], [],
   fun s => { s with a := 0xFF, p := 0xA4, pc := 0x8001 }⟩,
  ⟨[0x98], { base with y := 0x01, p := 0xA6 }, [], [],
   fun s => { s with a := 0x01, p := 0x24, pc := 0x8001 }⟩,
  ⟨[0xBA], base, [], [],
   fun s => { s with x := 0xFD, p := 0xA4, pc := 0x8001 }⟩,
  ⟨[0x9A], { base with x := 0x00 }, [], [],
   fun s => { s with sp := 0x00, pc := 0x8001 }⟩,
  ⟨[0x9A], { base with x := 0xFF, p := 0x26 }, [], [],
   fun s => { s with sp := 0xFF, pc := 0x8001 }⟩]

theorem test_vectorsTransferA : vectorsTransferA.all StepVector.holds = true := by decide

/-- Register transfers: V-TR-9 to V-TR-10 of 95_test_vectors.md. -/
def vectorsTransferB : List StepVector := [
  ⟨[0xAA], { base with a := 0x10, cfg := { Config.ners with execProfile := .sourceV7 } }, [], [],
   fun s => { s with x := 0x10, pc := 0x8001 }⟩,
  ⟨[0xA8], { base with a := 0x10, cfg := { Config.ners with execProfile := .sourceV7 } }, [], [],
   fun s => { s with pc := 0x8001, mode := .faulted, faultRecord := some ⟨.unimplementedOpcode, 0xA8, 0x8000⟩ }⟩]

theorem test_vectorsTransferB : vectorsTransferB.all StepVector.holds = true := by decide

/-- ALU: V-ALU-1 to V-ALU-8 of 95_test_vectors.md. -/
def vectorsAluA : List StepVector := [
  ⟨[0x69, 0x50], { base with a := 0x50 }, [], [],
   fun s => { s with a := 0xA0, p := 0xE4, pc := 0x8002 }⟩,
  ⟨[0x69, 0x01], { base with a := 0xFF }, [], [],
   fun s => { s with a := 0x00, p := 0x27, pc := 0x8002 }⟩,
  ⟨[0x69, 0x00], { base with a := 0x7F, p := 0x25 }, [], [],
   fun s => { s with a := 0x80, p := 0xE4, pc := 0x8002 }⟩,
  ⟨[0x69, 0x80], { base with a := 0x80 }, [], [],
   fun s => { s with a := 0x00, p := 0x67, pc := 0x8002 }⟩,
  ⟨[0x69, 0xFF], { base with a := 0xFF, p := 0x25 }, [], [],
   fun s => { s with p := 0xA5, pc := 0x8002 }⟩,
  ⟨[0x69, 0x01], { base with a := 0x01, p := 0x64 }, [], [],
   fun s => { s with a := 0x02, p := 0x24, pc := 0x8002 }⟩,
  ⟨[0xE9, 0x03], { base with a := 0x05, p := 0x25 }, [], [],
   fun s => { s with a := 0x02, pc := 0x8002 }⟩,
  ⟨[0xE9, 0x01], { base with a := 0x00, p := 0x25 }, [], [],
   fun s => { s with a := 0xFF, p := 0xA4, pc := 0x8002 }⟩]

theorem test_vectorsAluA : vectorsAluA.all StepVector.holds = true := by decide

/-- ALU: V-ALU-9 to V-ALU-16 of 95_test_vectors.md. -/
def vectorsAluB : List StepVector := [
  ⟨[0xE9, 0x01], { base with a := 0x80, p := 0x25 }, [], [],
   fun s => { s with a := 0x7F, p := 0x65, pc := 0x8002 }⟩,
  ⟨[0xE9, 0x05], { base with a := 0x05, p := 0x24 }, [], [],
   fun s => { s with a := 0xFF, p := 0xA4, pc := 0x8002 }⟩,
  ⟨[0xE9, 0x7F], { base with a := 0x7F, p := 0x25 }, [], [],
   fun s => { s with a := 0x00, p := 0x27, pc := 0x8002 }⟩,
  ⟨[0x69, 0x09], { base with a := 0x09, p := 0x2C }, [], [],
   fun s => { s with a := 0x12, pc := 0x8002 }⟩,
  ⟨[0x69, 0x09], { base with a := 0x09, p := 0x2C, cfg := { Config.ners with decimalMode := .refuse } }, [], [],
   fun s => { s with pc := 0x8001, mode := .faulted, faultRecord := some ⟨.unimplementedOpcode, 0x69, 0x8000⟩ }⟩,
  ⟨[0x29, 0x3C], { base with a := 0xF0 }, [], [],
   fun s => { s with a := 0x30, pc := 0x8002 }⟩,
  ⟨[0x29, 0x0F], { base with a := 0xF0 }, [], [],
   fun s => { s with a := 0x00, p := 0x26, pc := 0x8002 }⟩,
  ⟨[0x09, 0x80], { base with a := 0x01 }, [], [],
   fun s => { s with a := 0x81, p := 0xA4, pc := 0x8002 }⟩]

theorem test_vectorsAluB : vectorsAluB.all StepVector.holds = true := by decide

/-- ALU: V-ALU-17 to V-ALU-24 of 95_test_vectors.md. -/
def vectorsAluC : List StepVector := [
  ⟨[0x49, 0xFF], { base with a := 0xFF }, [], [],
   fun s => { s with a := 0x00, p := 0x26, pc := 0x8002 }⟩,
  ⟨[0x49, 0x0F], { base with a := 0xFF }, [], [],
   fun s => { s with a := 0xF0, p := 0xA4, pc := 0x8002 }⟩,
  ⟨[0xC9, 0x20], { base with a := 0x10 }, [], [],
   fun s => { s with p := 0xA4, pc := 0x8002 }⟩,
  ⟨[0xC9, 0x10], { base with a := 0x10 }, [], [],
   fun s => { s with p := 0x27, pc := 0x8002 }⟩,
  ⟨[0xC9, 0x01], { base with a := 0x80 }, [], [],
   fun s => { s with p := 0x25, pc := 0x8002 }⟩,
  ⟨[0xC9, 0x00], { base with a := 0x00, p := 0x64 }, [], [],
   fun s => { s with p := 0x67, pc := 0x8002 }⟩,
  ⟨[0xE0, 0x05], { base with x := 0x05 }, [], [],
   fun s => { s with p := 0x27, pc := 0x8002 }⟩,
  ⟨[0xC0, 0xFF], { base with y := 0x00 }, [], [],
   fun s => { s with pc := 0x8002 }⟩]

theorem test_vectorsAluC : vectorsAluC.all StepVector.holds = true := by decide

/-- ALU: V-ALU-25 to V-ALU-29 of 95_test_vectors.md. -/
def vectorsAluD : List StepVector := [
  ⟨[0x24, 0x10], { base with a := 0x01 }, [(0x0010, 0xC1)], [],
   fun s => { s with p := 0xE4, pc := 0x8002 }⟩,
  ⟨[0x24, 0x10], { base with a := 0x0F, p := 0xE4 }, [(0x0010, 0x30)], [],
   fun s => { s with p := 0x26, pc := 0x8002 }⟩,
  ⟨[0x2C, 0x00, 0x02], { base with a := 0xFF }, [(0x0200, 0x40)], [],
   fun s => { s with p := 0x64, pc := 0x8003 }⟩,
  ⟨[0x61, 0x20], { base with a := 0x01, x := 0x04 }, [(0x0024, 0x00), (0x0025, 0x03), (0x0300, 0x02)], [],
   fun s => { s with a := 0x03, pc := 0x8002 }⟩,
  ⟨[0x69, 0x01], { base with a := 0x01, cfg := { Config.ners with execProfile := .sourceV7 } }, [], [],
   fun s => { s with pc := 0x8001, mode := .faulted, faultRecord := some ⟨.unimplementedOpcode, 0x69, 0x8000⟩ }⟩]

theorem test_vectorsAluD : vectorsAluD.all StepVector.holds = true := by decide

/-- Increment and decrement: V-ID-1 to V-ID-8 of 95_test_vectors.md. -/
def vectorsIncDecA : List StepVector := [
  ⟨[0xE6, 0x10], base, [(0x0010, 0x41)], [(0x0010, 0x42)],
   fun s => { s with pc := 0x8002 }⟩,
  ⟨[0xE6, 0x10], base, [(0x0010, 0xFF)], [(0x0010, 0x00)],
   fun s => { s with p := 0x26, pc := 0x8002 }⟩,
  ⟨[0xFE, 0xFF, 0x01], { base with x := 0x01 }, [(0x0200, 0x7F)], [(0x0200, 0x80)],
   fun s => { s with p := 0xA4, pc := 0x8003 }⟩,
  ⟨[0xCE, 0x00, 0x02], base, [(0x0200, 0x00)], [(0x0200, 0xFF)],
   fun s => { s with p := 0xA4, pc := 0x8003 }⟩,
  ⟨[0xC6, 0x10], { base with p := 0x25 }, [(0x0010, 0x01)], [(0x0010, 0x00)],
   fun s => { s with p := 0x27, pc := 0x8002 }⟩,
  ⟨[0xE8], { base with x := 0xC0 }, [], [],
   fun s => { s with x := 0xC1, p := 0xA4, pc := 0x8001 }⟩,
  ⟨[0xE8], { base with x := 0xFF }, [], [],
   fun s => { s with x := 0x00, p := 0x26, pc := 0x8001 }⟩,
  ⟨[0xC8], { base with y := 0x7F }, [], [],
   fun s => { s with y := 0x80, p := 0xA4, pc := 0x8001 }⟩]

theorem test_vectorsIncDecA : vectorsIncDecA.all StepVector.holds = true := by decide

/-- Increment and decrement: V-ID-9 to V-ID-12 of 95_test_vectors.md. -/
def vectorsIncDecB : List StepVector := [
  ⟨[0xCA], { base with x := 0x01 }, [], [],
   fun s => { s with x := 0x00, p := 0x26, pc := 0x8001 }⟩,
  ⟨[0xCA], { base with x := 0x00 }, [], [],
   fun s => { s with x := 0xFF, p := 0xA4, pc := 0x8001 }⟩,
  ⟨[0x88], { base with y := 0x80 }, [], [],
   fun s => { s with y := 0x7F, pc := 0x8001 }⟩,
  ⟨[0xE8], { base with x := 0xC0, cfg := { Config.ners with execProfile := .sourceV7 } }, [], [],
   fun s => { s with pc := 0x8001, mode := .faulted, faultRecord := some ⟨.unimplementedOpcode, 0xE8, 0x8000⟩ }⟩]

theorem test_vectorsIncDecB : vectorsIncDecB.all StepVector.holds = true := by decide

/-- Shifts and rotates: V-SH-1 to V-SH-8 of 95_test_vectors.md. -/
def vectorsShiftA : List StepVector := [
  ⟨[0x0A], { base with a := 0x41 }, [], [],
   fun s => { s with a := 0x82, p := 0xA4, pc := 0x8001 }⟩,
  ⟨[0x0A], { base with a := 0x80 }, [], [],
   fun s => { s with a := 0x00, p := 0x27, pc := 0x8001 }⟩,
  ⟨[0x06, 0x10], base, [(0x0010, 0xC0)], [(0x0010, 0x80)],
   fun s => { s with p := 0xA5, pc := 0x8002 }⟩,
  ⟨[0x4A], { base with a := 0x03 }, [], [],
   fun s => { s with a := 0x01, p := 0x25, pc := 0x8001 }⟩,
  ⟨[0x4A], { base with a := 0x01, p := 0xA4 }, [], [],
   fun s => { s with a := 0x00, p := 0x27, pc := 0x8001 }⟩,
  ⟨[0x4E, 0x00, 0x02], base, [(0x0200, 0xFF)], [(0x0200, 0x7F)],
   fun s => { s with p := 0x25, pc := 0x8003 }⟩,
  ⟨[0x2A], { base with a := 0x80, p := 0x25 }, [], [],
   fun s => { s with a := 0x01, pc := 0x8001 }⟩,
  ⟨[0x2A], { base with a := 0x40 }, [], [],
   fun s => { s with a := 0x80, p := 0xA4, pc := 0x8001 }⟩]

theorem test_vectorsShiftA : vectorsShiftA.all StepVector.holds = true := by decide

/-- Shifts and rotates: V-SH-9 to V-SH-11 of 95_test_vectors.md. -/
def vectorsShiftB : List StepVector := [
  ⟨[0x66, 0x10], { base with p := 0x25 }, [(0x0010, 0x02)], [(0x0010, 0x81)],
   fun s => { s with p := 0xA4, pc := 0x8002 }⟩,
  ⟨[0x6A], { base with a := 0x01 }, [], [],
   fun s => { s with a := 0x00, p := 0x27, pc := 0x8001 }⟩,
  ⟨[0x7E, 0xFF, 0xFF], { base with x := 0x01, p := 0x25 }, [(0x0000, 0x00)], [(0x0000, 0x80)],
   fun s => { s with p := 0xA4, pc := 0x8003 }⟩]

theorem test_vectorsShiftB : vectorsShiftB.all StepVector.holds = true := by decide

/-- Flag instructions: V-FL-1 to V-FL-8 of 95_test_vectors.md. -/
def vectorsFlagOpsA : List StepVector := [
  ⟨[0x18], { base with p := 0x25 }, [], [],
   fun s => { s with p := 0x24, pc := 0x8001 }⟩,
  ⟨[0x38], base, [], [],
   fun s => { s with p := 0x25, pc := 0x8001 }⟩,
  ⟨[0x58], base, [], [],
   fun s => { s with p := 0x20, pc := 0x8001 }⟩,
  ⟨[0x78], { base with p := 0x20 }, [], [],
   fun s => { s with p := 0x24, pc := 0x8001 }⟩,
  ⟨[0xD8], { base with p := 0x2C }, [], [],
   fun s => { s with p := 0x24, pc := 0x8001 }⟩,
  ⟨[0xF8], base, [], [],
   fun s => { s with p := 0x2C, pc := 0x8001 }⟩,
  ⟨[0xB8], { base with p := 0x64 }, [], [],
   fun s => { s with p := 0x24, pc := 0x8001 }⟩,
  ⟨[0x38], { base with p := 0x25 }, [], [],
   fun s => { s with pc := 0x8001 }⟩]

theorem test_vectorsFlagOpsA : vectorsFlagOpsA.all StepVector.holds = true := by decide

/-- Stack instructions: V-ST-1 to V-ST-8 of 95_test_vectors.md. -/
def vectorsStackA : List StepVector := [
  ⟨[0x48], { base with a := 0x42 }, [], [(0x01FD, 0x42)],
   fun s => { s with sp := 0xFC, pc := 0x8001 }⟩,
  ⟨[0x48], { base with a := 0x42, sp := 0x00 }, [], [(0x0100, 0x42)],
   fun s => { s with sp := 0xFF, pc := 0x8001 }⟩,
  ⟨[0x08], base, [], [(0x01FD, 0x34)],
   fun s => { s with sp := 0xFC, pc := 0x8001 }⟩,
  ⟨[0x08], { base with p := 0xE7 }, [], [(0x01FD, 0xF7)],
   fun s => { s with sp := 0xFC, pc := 0x8001 }⟩,
  ⟨[0x68], { base with sp := 0xFC }, [(0x01FD, 0x00)], [],
   fun s => { s with sp := 0xFD, p := 0x26, pc := 0x8001 }⟩,
  ⟨[0x68], { base with sp := 0xFF }, [(0x0100, 0x90)], [],
   fun s => { s with a := 0x90, sp := 0x00, p := 0xA4, pc := 0x8001 }⟩,
  ⟨[0x28], { base with sp := 0xFC }, [(0x01FD, 0xFF)], [],
   fun s => { s with sp := 0xFD, p := 0xEF, pc := 0x8001 }⟩,
  ⟨[0x28], { base with sp := 0xFC }, [(0x01FD, 0x00)], [],
   fun s => { s with sp := 0xFD, p := 0x20, pc := 0x8001 }⟩]

theorem test_vectorsStackA : vectorsStackA.all StepVector.holds = true := by decide

/-- Stack instructions: V-ST-9 to V-ST-9 of 95_test_vectors.md. -/
def vectorsStackB : List StepVector := [
  ⟨[0x28], { base with sp := 0xFC }, [(0x01FD, 0xC3)], [],
   fun s => { s with sp := 0xFD, p := 0xE3, pc := 0x8001 }⟩]

theorem test_vectorsStackB : vectorsStackB.all StepVector.holds = true := by decide

/-- Control transfer, halt and NOP: V-CT-1 to V-CT-8 of 95_test_vectors.md. -/
def vectorsControlA : List StepVector := [
  ⟨[0x4C, 0x00, 0x90], base, [], [],
   fun s => { s with pc := 0x9000 }⟩,
  ⟨[0x4C, 0x00, 0x80], base, [], [],
   fun s => { s with pc := 0x8000 }⟩,
  ⟨[0x6C, 0xFF, 0x30], base, [(0x3000, 0x80), (0x30FF, 0x40), (0x3100, 0x50)], [],
   fun s => { s with pc := 0x8040 }⟩,
  ⟨[0x6C, 0xFF, 0x30], { base with cfg := { Config.ners with jmpIndWrap := .linear } }, [(0x3000, 0x80), (0x30FF, 0x40), (0x3100, 0x50)], [],
   fun s => { s with pc := 0x5040 }⟩,
  ⟨[0x6C, 0xFC, 0xFF], base, [(0xFFFC, 0x00), (0xFFFD, 0x80)], [],
   fun s => { s with pc := 0x8000 }⟩,
  ⟨[0x20, 0x10, 0x80], base, [], [(0x01FC, 0x02), (0x01FD, 0x80)],
   fun s => { s with sp := 0xFB, pc := 0x8010 }⟩,
  ⟨[0x60], { base with sp := 0xFB }, [(0x01FC, 0x02), (0x01FD, 0x80)], [],
   fun s => { s with sp := 0xFD, pc := 0x8003 }⟩,
  ⟨[0x60], { base with sp := 0xFB }, [(0x01FC, 0xFF), (0x01FD, 0xFF)], [],
   fun s => { s with sp := 0xFD, pc := 0x0000 }⟩]

theorem test_vectorsControlA : vectorsControlA.all StepVector.holds = true := by decide

/-- Control transfer, halt and NOP: V-CT-9 to V-CT-16 of 95_test_vectors.md. -/
def vectorsControlB : List StepVector := [
  ⟨[0x40], { base with sp := 0xFA }, [(0x01FB, 0x03), (0x01FC, 0x34), (0x01FD, 0x12)], [],
   fun s => { s with sp := 0xFD, p := 0x23, pc := 0x1234 }⟩,
  ⟨[0x10, 0x04], base, [], [],
   fun s => { s with pc := 0x8006 }⟩,
  ⟨[0x30, 0x04], base, [], [],
   fun s => { s with pc := 0x8002 }⟩,
  ⟨[0x50, 0x80], base, [], [],
   fun s => { s with pc := 0x7F82 }⟩,
  ⟨[0x70, 0x7F], { base with p := 0x64 }, [], [],
   fun s => { s with pc := 0x8081 }⟩,
  ⟨[0x90, 0xFE], base, [], [],
   fun s => { s with pc := 0x8000 }⟩,
  ⟨[0xB0, 0x10], { base with p := 0x25, pc := 0xFFF0 }, [], [],
   fun s => { s with pc := 0x0002 }⟩,
  ⟨[0xB0, 0x10], base, [], [],
   fun s => { s with pc := 0x8002 }⟩]

theorem test_vectorsControlB : vectorsControlB.all StepVector.holds = true := by decide

/-- Control transfer, halt and NOP: V-CT-17 to V-CT-24 of 95_test_vectors.md. -/
def vectorsControlC : List StepVector := [
  ⟨[0xD0, 0xFB], { base with pc := 0x8005 }, [], [],
   fun s => { s with pc := 0x8002 }⟩,
  ⟨[0xD0, 0xFB], { base with p := 0x26, pc := 0x8005 }, [], [],
   fun s => { s with pc := 0x8007 }⟩,
  ⟨[0xF0, 0xFF], { base with p := 0x26 }, [], [],
   fun s => { s with pc := 0x8001 }⟩,
  ⟨[0xF0, 0x00], { base with p := 0x26 }, [], [],
   fun s => { s with pc := 0x8002 }⟩,
  ⟨[0x00], { base with a := 0x12, p := 0xE7, pc := 0x8004 }, [], [],
   fun s => { s with pc := 0x8005, mode := .halted }⟩,
  ⟨[0x00], { base with cfg := { Config.ners with execProfile := .sourceV7 } }, [], [],
   fun s => { s with pc := 0x8001, mode := .halted }⟩,
  ⟨[0xEA], base, [], [],
   fun s => { s with pc := 0x8001 }⟩,
  ⟨[0x4C, 0x00, 0x90], { base with cfg := { Config.ners with execProfile := .sourceV7 } }, [], [],
   fun s => { s with pc := 0x8001, mode := .faulted, faultRecord := some ⟨.unimplementedOpcode, 0x4C, 0x8000⟩ }⟩]

theorem test_vectorsControlC : vectorsControlC.all StepVector.holds = true := by decide

/-- Controller and faults: V-FT-1 to V-FT-7 of 95_test_vectors.md. -/
def vectorsFaultA : List StepVector := [
  ⟨[0xFF], base, [], [],
   fun s => { s with pc := 0x8001, mode := .faulted, faultRecord := some ⟨.unrecognizedOpcode, 0xFF, 0x8000⟩ }⟩,
  ⟨[0x02], { base with a := 0x11 }, [], [],
   fun s => { s with pc := 0x8001, mode := .faulted, faultRecord := some ⟨.unrecognizedOpcode, 0x02, 0x8000⟩ }⟩,
  ⟨[0xFF], { base with cfg := { Config.ners with execProfile := .sourceV7 } }, [], [],
   fun s => { s with pc := 0x8001, mode := .faulted, faultRecord := some ⟨.unrecognizedOpcode, 0xFF, 0x8000⟩ }⟩,
  ⟨[0xE8], { base with x := 0xC0, cfg := { Config.ners with execProfile := .sourceV7 } }, [], [],
   fun s => { s with pc := 0x8001, mode := .faulted, faultRecord := some ⟨.unimplementedOpcode, 0xE8, 0x8000⟩ }⟩,
  ⟨[0xE9, 0x01], { base with a := 0x05, p := 0x2D, cfg := { Config.ners with decimalMode := .refuse } }, [], [],
   fun s => { s with pc := 0x8001, mode := .faulted, faultRecord := some ⟨.unimplementedOpcode, 0xE9, 0x8000⟩ }⟩,
  ⟨[0xEA], { base with pc := 0xFFFF }, [], [],
   fun s => { s with pc := 0x0000 }⟩,
  ⟨[0xA9, 0x05], { base with pc := 0xFFFF }, [], [],
   fun s => { s with a := 0x05, pc := 0x0001 }⟩]

theorem test_vectorsFaultA : vectorsFaultA.all StepVector.holds = true := by decide

/-! ## Memory primitives (V-MEM) and SetNZ -/

/-- The state of a vector with these cells. -/
def memState (cells : List (Nat × Byte)) : State := { base with mem := withCells [] cells }

theorem test_memRead_wraps : (memState [(0xFFFF, 0x34), (0x0000, 0x12)]).readWord 0xFFFF = 0x1234 := by decide

theorem test_memWrite_wraps :
    (base.writeWord 0xFFFF 0xBEEF).mem = [(0x0000, 0xBE), (0xFFFF, 0xEF)] := by decide

theorem test_zpRead16 : (memState [(0x00FF, 0x10), (0x0000, 0x20), (0x0100, 0x99)]).zpRead16 0xFF = 0x2010 ∧
    (memState [(0x0040, 0xFF), (0x0041, 0xFF)]).zpRead16 0x40 = 0xFFFF := by decide

theorem test_push_wraps :
    ({ base with sp := 0x00 }.push 0x42) = { base with sp := 0xFF, mem := [(0x0100, 0x42)] } := by decide

theorem test_pull_wraps : ({ memState [(0x0100, 0x90)] with sp := 0xFF }.pulled, { memState [(0x0100, 0x90)] with sp := 0xFF }.popped.sp) =
    ((0x90, 0x00) : Byte × Byte) := by decide

theorem test_setNZ : [(0x00, 0x26), (0x7F, 0x24), (0x80, 0xA4), (0xFF, 0xA4)].all
    (fun c => decide (putNZ 0x24 c.1 = c.2) && decide (putNZ 0xA6 c.1 = c.2)) = true := by decide

/-- Storing what an unlisted address reads as removes the cell: equal memories are equal lists. -/
theorem test_write_canonical : Memory.write (Memory.write [] 0x10 0x42) 0x10 0xFF = [] ∧
    Memory.write (Memory.write [] 0x20 0x01) 0x10 0x02 = Memory.write (Memory.write [] 0x10 0x02) 0x20 0x01 := by decide

/-! ## Host operations (V-HO) -/

/-- The registers of a machine that has just been powered on, as V-HO-1 starts with. -/
def anyRegs : InitRegs := { a := 0x12, x := 0x34, y := 0x56, sp := 0x00, p := 0xFF, pc := 0x1234 }

/-- Power-on with these cells in memory and LOAD_WRITES_VECTOR as given. -/
def poweredOn (writesVector : Bool) (cells : List (Nat × Byte)) : State :=
  State.powerOn { Config.ners with loadWritesVector := writesVector } anyRegs (withCells [] cells)

theorem test_reset_anyState :
    { poweredOn true [(0xFFFC, 0x00), (0xFFFD, 0x90)] with mode := .faulted, faultRecord := some ⟨.unrecognizedOpcode, 0xFF, 0x8000⟩ }.hostReset
      = { State.reset with mem := [(0xFFFC, 0x00), (0xFFFD, 0x90)], pc := 0x9000 } := by decide

theorem test_load_writesVector : nextIs (hostLoad [0xEA] (poweredOn true []))
    { poweredOn true [] with mem := [(0x8000, 0xEA), (0xFFFC, 0x00), (0xFFFD, 0x80)], pc := 0x8000, mode := .running } = true := by
  decide

theorem test_load_literal : nextIs (hostLoad [0xEA] (poweredOn false []))
    { poweredOn false [] with mem := [(0x8000, 0xEA)], pc := 0x8000, mode := .running } = true := by decide

/-- What a run returned, without the state's memory: how it ended, and the registers. -/
def ended : RunResult → Option (Option FaultRecord × Observation)
  | .ok s => some (none, s.observe)
  | .err r s => some (some r, s.observe)
  | .outOfFuel _ => none
  | .refused _ => none
  | .stuck _ => none

theorem test_run_halts_then_resumes :
    ended (hostLoadAndRun 1 [0x00, 0xE8, 0x00] (poweredOn true [])) = some (none, ⟨0x00, 0x00, 0x00, 0x24, 0x8001, 0xFD⟩) ∧
    ended (hostRun 2 { base with pc := 0x8001, mode := .halted, mem := [(0x8001, 0xE8), (0x8002, 0x00)] }) =
      some (none, ⟨0x00, 0x01, 0x00, 0x24, 0x8003, 0xFD⟩) := by decide

theorem test_loadAndRun_entryIsTheVector :
    ended (hostLoadAndRun 1 [0xEA] (poweredOn false [(0x9000, 0x00), (0xFFFC, 0x00), (0xFFFD, 0x90)])) =
      some (none, ⟨0x00, 0x00, 0x00, 0x24, 0x9001, 0xFD⟩) := by decide

theorem test_run_refused : hostRun 1 { base with mode := .faulted } = .refused .runWhileFaulted ∧
    hostRun 1 (poweredOn true []) = .refused .runWhileIdle := ⟨rfl, rfl⟩

theorem test_load_tooLong (s : State) :
    hostLoad (List.replicate 0x8001 0xEA) s = .refused (.programTooLong 0x8001) := by
  unfold hostLoad
  rw [List.length_replicate, if_neg (by decide)]

/-! ## The host's hooks -/

theorem test_withFetchWord_runs :
    nextIs (step (State.reset.withFetchWord 16 0x01A9))
      { State.reset.withFetchWord 16 0x01A9 with a := 0x01, p := 0x24, pc := 0x0001 } = true := by decide

/-! ## Witnesses: for every statement with hypotheses, states and operands that meet them, at the edges of their ranges -/

/-- A Running machine with the instruction's bytes at PC. -/
def ready (s : State) (bytes : List Byte) : State := withBytes s s.pc bytes

/-- The vectors' start state under SOURCE_V7. -/
def baseV7 : State := { base with cfg := { Config.ners with execProfile := .sourceV7 } }

/-- The vectors' start state with D = 1 under DECIMAL_MODE = REFUSE. -/
def baseRefuse : State := { base with p := 0x2C, cfg := { Config.ners with decimalMode := .refuse } }

/-- The state is Running, fetches the instruction, and its profile executes it. -/
def runs (s : State) (i : Instr) : Bool :=
  decide (s.mode = .running) && decide (s.fetchInstr = some i) && i.executesUnder s.cfg.execProfile

theorem witness_DecodedBytesAreTheEncoding :
    decode [0xFE, 0xFF, 0xFF, 0xEA] = .ok (.incAbsX 0xFFFF) [0xEA] ∧ decode [0xEA] = .ok .nop [] := by decide

theorem witness_UnlistedOpcodesRaiseUnrecognized :
    (ready base [0x02]).mode = .running ∧ (ready base [0x02]).read (ready base [0x02]).pc = 0x02 ∧
    (ready baseV7 [0xFF]).mode = .running ∧ (ready baseV7 [0xFF]).read (ready baseV7 [0xFF]).pc = 0xFF := by decide

theorem witness_WellFormedSpellingsAssemble :
    assemble ⟨.LDX, .zeroPageY 0xFF⟩ = some (.ldxZpY 0xFF) ∧ Spelling.wellFormed ⟨.JMP, .indirectTarget 0xFFFF⟩ = true := by
  decide

theorem witness_StoreThenLoad : (0x0000 : Addr) ≠ 0xFFFF := by decide

theorem witness_WordStoreThenLoad : (0x0001 : Addr) ≠ 0xFFFF ∧ (0x0001 : Addr) ≠ 0xFFFF + 1 := by decide

theorem witness_ZeroPagePointerStaysInPageZero : 256 ≤ (0x0100 : Addr).toNat := by decide

theorem witness_CanonicalMemoriesAreEqual :
    Memory.wf [(0x0000, 0xEA), (0xFFFF, 0x00)] = true ∧
    Memory.write (Memory.write [] 0xFFFF 0x00) 0x0000 0xEA = [(0x0000, 0xEA), (0xFFFF, 0x00)] := by decide

/-- One state for each form, each at the edge of its page or of the address space, the last with operand bytes at 0xFFFF
and 0x0000. -/
theorem witness_EffectiveAddresses :
    ([(ready base [0xA9, 0x00], .immediate), (ready base [0xA5, 0xFF], .zeroPage),
      (ready { base with x := 0x01 } [0xB5, 0xFF], .zeroPageX), (ready { base with y := 0x01 } [0xB6, 0xFF], .zeroPageY),
      (ready { base with y := 0xFF } [0x96, 0xFF], .zeroPageY), (ready base [0xAD, 0xFF, 0xFF], .absolute),
      (ready { base with x := 0x01 } [0xBD, 0xFF, 0xFF], .absoluteX), (ready { base with y := 0xFF } [0xB9, 0xFF, 0xFF], .absoluteY),
      (ready { base with pc := 0xFFFE } [0xAD, 0x00, 0x03], .absolute)] : List (State × Form)).all
      (fun c => decide (c.1.fetchInstr.map Instr.form = some c.2)) = true := by decide

theorem witness_IndirectEffectiveAddresses :
    ([(ready { base with x := 0x01 } [0xA1, 0xFE], .indirectX), (ready { base with y := 0xFF } [0xB1, 0xFF], .indirectY)] :
      List (State × Form)).all (fun c => decide (c.1.fetchInstr.map Instr.form = some c.2)) = true := by decide

/-- The hypotheses of `UnimplementedUnderV7`, which many statements conclude with, for a first and a last opcode byte. -/
theorem witness_UnimplementedUnderV7 :
    ([(ready baseV7 [0x01, 0x10], .oraIndX 0x10), (ready baseV7 [0xFE, 0xFF, 0xFF], .incAbsX 0xFFFF)] : List (State × Instr)).all
      (fun c => decide (c.1.mode = .running) && decide (c.1.cfg.execProfile = .sourceV7) && decide (c.1.fetchInstr = some c.2))
      = true := by decide

theorem witness_DecodedOperandsMatchTheResolver :
    (ready { base with pc := 0xFFFF } [0xBD, 0xFF, 0xFF]).fetchInstr = some (.ldaAbsX 0xFFFF) ∧
    (ready base [0xEA]).fetchInstr = some .nop := by decide

/-- LDA # goes on, JMP is a control transfer, BRK leaves the mode Running. -/
theorem witness_StepRunsTheDecodedInstruction :
    (runs (ready base [0xA9, 0x80]) (.ldaImm 0x80) && runs (ready base [0x4C, 0x00, 0x90]) (.jmpAbs 0x9000) &&
      runs (ready base [0x00]) .brk) = true ∧
    ([(ready base [0xA9, 0x80], .ldaImm 0x80, [0xFF]), (ready base [0x4C, 0x00, 0x90], .jmpAbs 0x9000, []),
      (ready base [0x00], .brk, [0xFF, 0xFF])] : List (State × Instr × List Byte)).all (fun c =>
        decide (decode [c.1.read c.1.pc, c.1.read (c.1.pc + 1), c.1.read (c.1.pc + 2)] = .ok c.2.1 c.2.2)) = true ∧
    (∃ t, exec (.ldaImm 0x80) { ready base [0xA9, 0x80] with pc := 0x8001 } = .next t ∧ t.mode = .running ∧
      (Instr.ldaImm 0x80).isControlTransfer = false) ∧
    (∃ t, exec (.jmpAbs 0x9000) { ready base [0x4C, 0x00, 0x90] with pc := 0x8001 } = .next t ∧
      (Instr.jmpAbs 0x9000).isControlTransfer = true) ∧
    (∃ t, exec .brk { ready base [0x00] with pc := 0x8001 } = .next t ∧ t.mode ≠ .running) :=
  ⟨by decide, by decide, ⟨_, rfl, rfl, rfl⟩, ⟨_, rfl, rfl⟩, ⟨_, rfl, by decide⟩⟩

theorem witness_StepHasOneOfThreeOutcomes :
    base.mode = .running ∧ (poweredOn true []).mode ≠ .running ∧ { base with mode := .halted }.mode ≠ .running := by decide

theorem witness_PcAdvancesByTheLength :
    (runs (ready { base with pc := 0xFFFF } [0xEA]) .nop && runs (ready { base with pc := 0xFFFE } [0xAD, 0x00, 0x03]) (.ldaAbs 0x0300) &&
      runs (ready base [0xD0, 0x80]) (.bne 0x80) && runs (ready baseV7 [0xA9, 0x00]) (.ldaImm 0x00)) = true := by decide

/-- The two ways a Running step faults: the opcode byte, and the decimal refusal. -/
theorem witness_FaultsArePrecise :
    (∃ t, step (ready base [0xFF]) = .next t ∧ t.mode = .faulted) ∧
    (∃ t, step (ready baseRefuse [0x69, 0x01]) = .next t ∧ t.mode = .faulted) :=
  ⟨⟨{ ready base [0xFF] with pc := 0x8001, mode := .faulted, faultRecord := some ⟨.unrecognizedOpcode, 0xFF, 0x8000⟩ },
    of_nextIs (by decide), rfl⟩,
   ⟨{ ready baseRefuse [0x69, 0x01] with
      pc := 0x8001, mode := .faulted, faultRecord := some ⟨.unimplementedOpcode, 0x69, 0x8000⟩ },
    of_nextIs (by decide), rfl⟩⟩

theorem witness_ProfilesSelectWhatExecutes :
    runs (ready base [0x01, 0x10]) (.oraIndX 0x10) = true ∧ runs (ready baseV7 [0xAA]) .tax = true ∧
    runs (ready baseV7 [0x00]) .brk = true ∧
    ((ready baseV7 [0xE8]).mode = .running ∧ (ready baseV7 [0xE8]).fetchInstr = some .inx ∧
      (ready baseV7 [0xE8]).cfg.execProfile = .sourceV7) := by decide

theorem witness_OnlySpecifiedFaultKindsArise :
    ∃ t, step (ready base [0x02]) = .next t ∧ t.mode = .faulted ∧ t.faultRecord = some ⟨.unrecognizedOpcode, 0x02, 0x8000⟩ ∧
      (ready base [0x02]).cfg.execProfile = .full ∧ (ready base [0x02]).cfg.decimalMode = .binary :=
  ⟨{ ready base [0x02] with pc := 0x8001, mode := .faulted, faultRecord := some ⟨.unrecognizedOpcode, 0x02, 0x8000⟩ },
    of_nextIs (by decide), rfl, rfl, rfl, rfl⟩

theorem witness_ExecAlwaysAnswersNext : ∃ t, exec (.sbcImm 0x01) baseRefuse = .next t ∧ t.mode = .faulted :=
  ⟨raise .unimplementedOpcode 0xE9 0x7FFF baseRefuse, of_nextIs (by decide), rfl⟩

/-- The mnemonics that the statements on loads, stores, logic, compares, BIT, INC and DEC, shifts take as hypotheses. -/
theorem witness_mnemonics :
    (Instr.ldaIndY 0xFF).mnemonic = .LDA ∧ (Instr.ldxAbsY 0xFFFF).mnemonic = .LDX ∧ (Instr.ldyZpX 0xFF).mnemonic = .LDY ∧
    (Instr.staIndX 0xFF).mnemonic = .STA ∧ (Instr.stxZpY 0xFF).mnemonic = .STX ∧ (Instr.styAbs 0xFFFF).mnemonic = .STY ∧
    (Instr.andImm 0x00).mnemonic = .AND ∧ (Instr.oraZp 0x00).mnemonic = .ORA ∧ (Instr.eorAbsX 0xFFFF).mnemonic = .EOR ∧
    (Instr.cmpIndX 0x00).mnemonic = .CMP ∧ (Instr.cpxImm 0xFF).mnemonic = .CPX ∧ (Instr.cpyAbs 0x0000).mnemonic = .CPY ∧
    (Instr.bitZp 0xFF).mnemonic = .BIT ∧ (Instr.incAbsX 0xFFFF).mnemonic = .INC ∧ (Instr.decZp 0x00).mnemonic = .DEC := by decide

theorem witness_LoadsWriteTheirRegister : (Instr.ldaIndX 0xFF).mnemonic = .LDA ∧ (Instr.ldaIndX 0xFF).opcode = 0xA1 ∧
    (Instr.ldaImm 0xFF).mnemonic = .LDA ∧ (Instr.ldxZpY 0xFF).mnemonic = .LDX ∧ (Instr.ldyImm 0x00).mnemonic = .LDY := by decide

theorem witness_StoresWriteOneCell : (Instr.staIndY 0xFF).mnemonic = .STA ∧ (Instr.staIndY 0xFF).opcode = 0x91 ∧
    (Instr.staAbsY 0xFFFF).mnemonic = .STA ∧ (Instr.stxZp 0xFF).mnemonic = .STX ∧ (Instr.styZpX 0x00).mnemonic = .STY := by decide

theorem witness_AdcAddsWithCarry : (Instr.adcImm 0xFF).mnemonic = .ADC ∧
    ¬ (base.cfg.decimalMode = .refuse ∧ base.flag .D = true) ∧
    ¬ ({ baseRefuse with p := 0x24 }.cfg.decimalMode = .refuse ∧ { baseRefuse with p := 0x24 }.flag .D = true) ∧
    (baseRefuse.cfg.decimalMode = .refuse ∧ baseRefuse.flag .D = true) := by decide

theorem witness_SbcSubtractsWithBorrow : (Instr.sbcAbsY 0xFFFF).mnemonic = .SBC ∧
    ¬ ({ base with p := 0x2C }.cfg.decimalMode = .refuse ∧ { base with p := 0x2C }.flag .D = true) ∧
    (baseRefuse.cfg.decimalMode = .refuse ∧ baseRefuse.flag .D = true) := by decide

theorem witness_LogicInstructions : (Instr.andIndY 0xFF).mnemonic = .AND ∧ (Instr.oraImm 0x80).mnemonic = .ORA ∧
    (Instr.eorAbs 0xFFFF).mnemonic = .EOR := by decide

theorem witness_CompareInstructions : (Instr.cmpImm 0x00).mnemonic = .CMP ∧ (Instr.cpxAbs 0xFFFF).mnemonic = .CPX ∧
    (Instr.cpyZp 0xFF).mnemonic = .CPY := by decide

theorem witness_BitTest : (Instr.bitAbs 0xFFFF).mnemonic = .BIT := by decide

theorem witness_IncAndDecMemory : (Instr.incZpX 0xFF).mnemonic = .INC ∧ (Instr.decAbs 0x0000).mnemonic = .DEC := by decide

theorem witness_ShiftsAndRotates :
    Instr.aslAcc.mnemonic ∈ ([.ASL, .LSR, .ROL, .ROR] : List Mnemonic) ∧ Instr.aslAcc.form = .accumulator ∧
    (Instr.rorAbsX 0xFFFF).mnemonic ∈ ([.ASL, .LSR, .ROL, .ROR] : List Mnemonic) ∧ (Instr.rorAbsX 0xFFFF).form ≠ .accumulator ∧
    (Instr.lsrZp 0x00).mnemonic = .LSR ∧ (Instr.rolZpX 0xFF).mnemonic = .ROL := by decide

theorem witness_Jumps :
    ({ base with cfg := { Config.ners with jmpIndWrap := .linear } }.cfg.jmpIndWrap = .linear) ∧ (0x30FE : Addr).toNat % 256 ≠ 255 ∧
    base.cfg.jmpIndWrap = .nmosPageWrap ∧ (0xFFFF : Addr).toNat % 256 = 255 := by decide

theorem witness_CallThenReturn : ∃ t u, exec (.jsr 0x8010) { base with pc := 0x8001, sp := 0x00 } = .next t ∧ exec .rts t = .next u :=
  ⟨_, _, rfl, rfl⟩

theorem witness_BrkHalts : (ready base [0x00]).mode = .running ∧ (ready base [0x00]).read (ready base [0x00]).pc = 0x00 := by decide

theorem witness_NopDoesNothing : (ready base [0xEA]).mode = .running ∧ (ready base [0xEA]).cfg.execProfile = .full ∧
    (ready base [0xEA]).read (ready base [0xEA]).pc = 0xEA := by decide

/-- An instruction outside each list of writers; the accumulator form that A's clause leaves out has a memory form inside. -/
theorem witness_RegistersChangeOnlyByTheirWriters : (∃ t, exec (.incAbsX 0xFFFF) base = .next t) ∧
    (Instr.incAbsX 0xFFFF).mnemonic ∉ ([.LDA, .TXA, .TYA, .PLA, .ADC, .SBC, .AND, .ORA, .EOR] : List Mnemonic) ∧
    (∃ t, exec (.aslZp 0xFF) base = .next t) ∧
    ¬ ((Instr.aslZp 0xFF).mnemonic ∈ ([.ASL, .LSR, .ROL, .ROR] : List Mnemonic) ∧ (Instr.aslZp 0xFF).form = .accumulator) ∧
    (Instr.aslZp 0xFF).mnemonic ∉ ([.LDX, .TAX, .TSX, .INX, .DEX] : List Mnemonic) ∧
    (Instr.aslZp 0xFF).mnemonic ∉ ([.LDY, .TAY, .INY, .DEY] : List Mnemonic) ∧
    (Instr.aslZp 0xFF).mnemonic ∉ ([.TXS, .PHA, .PHP, .PLA, .PLP, .JSR, .RTS, .RTI] : List Mnemonic) :=
  ⟨⟨_, rfl⟩, by decide, ⟨_, rfl⟩, by decide, by decide, by decide, by decide⟩

/-- STA is outside every list of the statement. -/
theorem witness_FlagsChangeOnlyByTheirWriters : (∃ t, exec (.staZp 0xFF) base = .next t) ∧
    (Instr.staZp 0xFF).mnemonic ∉ ([.ADC, .SBC, .CMP, .CPX, .CPY, .ASL, .LSR, .ROL, .ROR, .CLC, .SEC, .PLP, .RTI] : List Mnemonic) ∧
    (Instr.staZp 0xFF).mnemonic ∉ ([.LDA, .LDX, .LDY, .PLA, .TAX, .TAY, .TXA, .TYA, .TSX, .ADC, .SBC, .AND, .ORA, .EOR, .INC, .DEC,
      .INX, .INY, .DEX, .DEY, .ASL, .LSR, .ROL, .ROR, .CMP, .CPX, .CPY, .BIT, .PLP, .RTI] : List Mnemonic) ∧
    (Instr.staZp 0xFF).mnemonic ∉ ([.CLI, .SEI, .CLD, .SED, .CLV, .BIT, .PLP, .RTI] : List Mnemonic) :=
  ⟨⟨_, rfl⟩, by decide, by decide, by decide⟩

/-- A store, a push, JSR, a load, a shift of A; an address beside each stored cell. -/
theorem witness_MemoryChangesOnlyWhereStored :
    ((∃ t, exec (.staAbsX 0xFFFF) base = .next t) ∧ (Instr.staAbsX 0xFFFF).operand.address base = some 0xFFFF ∧
      (0x0000 : Addr) ≠ 0xFFFF) ∧
    ((∃ t, exec .php { base with sp := 0x00 } = .next t) ∧ (0x01FF : Addr) ≠ stackAddr 0x00) ∧
    ((∃ t, exec (.jsr 0x9000) { base with sp := 0x00 } = .next t) ∧ (0x0101 : Addr) ≠ stackAddr 0x00 ∧
      (0x0101 : Addr) ≠ stackAddr (0x00 - 1)) ∧
    ((∃ t, exec (.ldaZp 0x10) base = .next t) ∧ (∃ t, exec .lsrAcc base = .next t) ∧ Instr.lsrAcc.form = .accumulator) ∧
    (0x0000 : Addr) ∉ (Instr.staAbsX 0xFFFF).storedAddrs base :=
  ⟨⟨⟨_, rfl⟩, by decide, by decide⟩, ⟨⟨_, rfl⟩, by decide⟩, ⟨⟨_, rfl⟩, by decide, by decide⟩, ⟨⟨_, rfl⟩, ⟨_, rfl⟩, by decide⟩,
   by decide⟩

theorem witness_ModeRecordAndPcFrame :
    ((∃ t, exec (.adcImm 0x01) base = .next t) ∧ (Instr.adcImm 0x01).isControlTransfer = false ∧ (Instr.adcImm 0x01).mnemonic ≠ .BRK ∧
      ¬ (((Instr.adcImm 0x01).mnemonic = .ADC ∨ (Instr.adcImm 0x01).mnemonic = .SBC) ∧ base.cfg.decimalMode = .refuse ∧
        base.flag .D = true)) ∧
    ((∃ t, exec .brk base = .next t) ∧ Instr.brk.mnemonic = .BRK) :=
  ⟨⟨⟨_, rfl⟩, by decide, by decide, by decide⟩, ⟨⟨_, rfl⟩, by decide⟩⟩

/-- Each of the four cases; PHP is in the first two only. -/
theorem witness_UnreadFlagsDoNotMatter :
    (Flag.BA = .BA ∧ Flag.BB = .BB) ∧ (Flag.I = .I ∧ (Instr.pla).mnemonic ≠ .PHP) ∧
    (Flag.D = .D ∧ (Instr.adcImm 0x99).mnemonic ≠ .PHP ∧ base.cfg.decimalMode = .binary) := by decide

theorem witness_StepKeepsTheInvariant :
    (ready base [0x48]).Inv ∧ ∃ t, step (ready base [0x48]) = .next t :=
  ⟨by decide, { ready base [0x48] with pc := 0x8001, sp := 0xFC, mem := [(0x01FD, 0x00), (0x8000, 0x48)] }, of_nextIs (by decide)⟩

/-- A halt, a fault and a run out of fuel, from states with the invariant; a load from power-on. -/
theorem witness_HostOperationsKeepTheInvariant :
    (poweredOn true [(0xFFFF, 0x00)]).mem.wf = true ∧ (∃ t, hostLoad [0xEA] (poweredOn true []) = .next t) ∧
    ((ready base [0x00]).Inv ∧ (∃ t, hostRun 1 (ready base [0x00]) = .ok t)) ∧
    ((ready base [0xFF]).Inv ∧ (∃ r t, hostRun 1 (ready base [0xFF]) = .err r t)) ∧
    ((ready base [0xEA]).Inv ∧ (∃ t, hostRun 0 (ready base [0xEA]) = .outOfFuel t)) :=
  ⟨by decide, ⟨_, rfl⟩, ⟨by decide, _, rfl⟩, ⟨by decide, _, _, rfl⟩, ⟨by decide, _, rfl⟩⟩

theorem witness_BreakBitsStayFixed :
    (ready base [0x28]).BreakBitsFixed ∧
    (∃ t, step (ready base [0x28]) = .next t) ∧ (∃ t, Host.Core.run Sys2Proof.core 1 State.reset.hostReset = .next t) :=
  ⟨by decide, ⟨_, rfl⟩, ⟨_, rfl⟩⟩

/-- The longest program, and one byte more. -/
theorem witness_LoadWritesProgramAndVector :
    (List.replicate 0x8000 (0xEA : Byte)).length ≤ 0x8000 ∧ 0x8000 < (List.replicate 0x8001 (0xEA : Byte)).length := by
  rw [List.length_replicate, List.length_replicate]; decide

/-- The statement's chain of cases: the two vector bytes, the first and last byte of the longest program, and the byte
below the origin. With a program of 0x8000 bytes the vector lies inside the program, and the vector's cases come first. -/
theorem witness_LoadWritesProgramAndVector_addresses :
    base.cfg.loadWritesVector = true ∧ (poweredOn false []).cfg.loadWritesVector ≠ true ∧
    (0x8000 ≤ (0x8000 : Addr).toNat ∧ (0x8000 : Addr).toNat < 0x8000 + 0x8000) ∧
    (0x8000 ≤ (0xFFFF : Addr).toNat ∧ (0xFFFF : Addr).toNat < 0x8000 + 0x8000 ∧ (0xFFFF : Addr) ≠ 0xFFFD) ∧
    ¬ (0x8000 ≤ (0x7FFF : Addr).toNat) := by decide

theorem witness_RefusedHostOperations : (poweredOn true []).mode = .idle ∧ { base with mode := .faulted }.mode = .faulted ∧
    0x8000 < (List.replicate 0x8001 (0xEA : Byte)).length := by
  rw [List.length_replicate]; decide

theorem witness_RunReturnsAtHaltOrFault :
    { base with mode := .halted }.mode = .halted ∧ base.mode = .running ∧
    (∃ t, step (ready base [0x00]) = .next t ∧ t.mode = .halted) ∧ (∃ t, step (ready base [0xFF]) = .next t ∧ t.mode = .faulted) ∧
    (∃ t, step (ready base [0xEA]) = .next t ∧ t.mode = .running) :=
  ⟨rfl, rfl, ⟨_, rfl, rfl⟩, ⟨_, rfl, rfl⟩, ⟨_, rfl, rfl⟩⟩

/-- Both values of the parameter, the longest program that leaves the vector alone, the longest program, one byte more. -/
theorem witness_LoadAndRunStartsAtTheResetVector :
    (poweredOn true []).cfg.loadWritesVector = true ∧ (poweredOn false []).cfg.loadWritesVector = false ∧
    (List.replicate 0x7FFC (0xEA : Byte)).length ≤ 0x7FFC ∧ (List.replicate 0x8000 (0xEA : Byte)).length ≤ 0x8000 ∧
    0x8000 < (List.replicate 0x8001 (0xEA : Byte)).length := by
  rw [List.length_replicate, List.length_replicate, List.length_replicate]; decide

/-- A Running state of each kind of run, with the fuel that shows the halt and the fault. -/
theorem witness_RunsEndInOneOfThreeWays :
    ((ready base [0x00]).mode = .running ∧ ∃ t, runLoop 1 (ready base [0x00]) = .ok t) ∧
    ((ready base [0xFF]).mode = .running ∧ ∃ r t, runLoop 1 (ready base [0xFF]) = .err r t) ∧
    ((ready base [0x4C, 0x00, 0x80]).mode = .running ∧
      nextIs (step (ready base [0x4C, 0x00, 0x80])) (ready base [0x4C, 0x00, 0x80]) = true) :=
  ⟨⟨by decide, _, rfl⟩, ⟨by decide, _, _, rfl⟩, by decide, by decide⟩

/-- A store of each kind, to the opcode byte, the first and the second operand byte that a later fetch reads (the last with
PC at 0xFFFF), and to both cells of a JSR at the bottom of the stack page. -/
theorem witness_StoresAreSeenByTheNextFetch :
    ((0x8007, 0x00) ∈ (Instr.staAbs 0x8007).storedBytes base ∧
      ∃ t u : State, exec (.staAbs 0x8007) base = .next t ∧ u.mem = t.mem ∧ u.pc = 0x8007) ∧
    ((0x8008, 0xFE) ∈ (Instr.aslAbs 0x8008).storedBytes base ∧
      ∃ t u : State, exec (.aslAbs 0x8008) base = .next t ∧ u.mem = t.mem ∧ u.pc + 1 = 0x8008) ∧
    ((0x0001, 0x00) ∈ (Instr.incZp 0x01).storedBytes base ∧
      ∃ t u : State, exec (.incZp 0x01) base = .next t ∧ u.mem = t.mem ∧ u.pc + 2 = 0x0001) ∧
    ((0x0100, 0x80) ∈ (Instr.jsr 0x9000).storedBytes { base with pc := 0x8001, sp := 0x00 } ∧
      (0x01FF, 0x02) ∈ (Instr.jsr 0x9000).storedBytes { base with pc := 0x8001, sp := 0x00 } ∧
      ∃ t u : State, exec (.jsr 0x9000) { base with pc := 0x8001, sp := 0x00 } = .next t ∧ u.mem = t.mem ∧ u.pc = 0x0100) ∧
    (runs (ready { base with a := 0xE8 } [0x8D, 0x03, 0x80]) (.staAbs 0x8003) = true ∧
      ∃ u, step (ready { base with a := 0xE8 } [0x8D, 0x03, 0x80]) = .next u) :=
  ⟨⟨by decide, _, { base.write 0x8007 base.a with pc := 0x8007 }, rfl, rfl, rfl⟩,
   ⟨by decide, _, { base.write 0x8008 0xFE with pc := 0x8007 }, rfl, rfl, rfl⟩,
   ⟨by decide, _, { base.write 0x0001 0x00 with pc := 0xFFFF }, rfl, rfl, rfl⟩,
   ⟨by decide, by decide, _, { (base.write 0x0100 0x80).write 0x01FF 0x02 with pc := 0x0100 }, rfl, rfl, rfl⟩,
   ⟨by decide, _, rfl⟩⟩

theorem witness_BranchOffsetsReachTheirLabel :
    branchOffset ({ base with pc := 0x8001 }.pc - 1) 0x7F82 = some 0x80 ∧
    branchOffset ({ base with pc := 0x8001 }.pc - 1) 0x8081 = some 0x7F := by decide

end Sys2Proof.Tests
end

section
/-! Byte memory and the stack primitives (20_memory.md R38, R39, R48). -/

namespace Sys2Proof.Machine

/-- The page byte 0x01 and SP share no bit, so the OR of R48 is a sum. -/
theorem stackAddr_toNat (sp : Byte) : (stackAddr sp).toNat = 0x0100 + sp.toNat := by
  rw [stackAddr, BitVec.toNat_or, zext16_toNat]
  exact (Nat.two_pow_add_eq_or_of_lt sp.isLt 1).symm

namespace State

/-- A store at `a` is not seen at another address (R39). -/
theorem read_write_of_ne (s : State) {a b : Addr} (h : b ≠ a) (v : Byte) : (s.write a v).read b = s.read b := by
  rw [read_write, if_neg h.symm]

/-- A pull after a push returns the pushed byte: the increment undoes the decrement, also across 0x00. -/
@[simp] theorem pulled_push (s : State) (v : Byte) : (s.push v).pulled = v := by
  rw [pulled, push_sp, BitVec.sub_add_cancel, read_push, if_pos rfl]

/-- A pull after a push restores SP. -/
theorem popped_push_sp (s : State) (v : Byte) : (s.push v).popped.sp = s.sp := by
  rw [popped_sp, push_sp, BitVec.sub_add_cancel]

end State

/-- Settles O6, by the law of a read after a store: the store updates memory alone. -/
theorem storeThenLoad : Obligations.StoreThenLoad := fun s a _ v =>
  ⟨s.read_write_self a v, fun h => s.read_write_of_ne h v, rfl⟩

/-- Settles O9: the address is a sum, and the composition of push and pull rests on the wrap of SP. -/
theorem stackPrimitives : Obligations.StackPrimitives := fun s v =>
  ⟨stackAddr_toNat s.sp, rfl, rfl, rfl, s.pulled_push v, s.popped_push_sp v⟩

end Sys2Proof.Machine
end

section
/-! The opcode table read by opcode byte (30_encoding.md R56, R61, R63, R65): which bytes have a row, what a row builds
and under which profiles it executes. -/

namespace Sys2Proof

/-- The bytes that the map of R61 marks `--`. -/
def unlistedOpcodes : List Byte := [
  0x02, 0x03, 0x04, 0x07, 0x0B, 0x0C, 0x0F, 0x12, 0x13, 0x14, 0x17, 0x1A, 0x1B, 0x1C, 0x1F, 0x22, 0x23, 0x27,
  0x2B, 0x2F, 0x32, 0x33, 0x34, 0x37, 0x3A, 0x3B, 0x3C, 0x3F, 0x42, 0x43, 0x44, 0x47, 0x4B, 0x4F, 0x52, 0x53,
  0x54, 0x57, 0x5A, 0x5B, 0x5C, 0x5F, 0x62, 0x63, 0x64, 0x67, 0x6B, 0x6F, 0x72, 0x73, 0x74, 0x77, 0x7A, 0x7B,
  0x7C, 0x7F, 0x80, 0x82, 0x83, 0x87, 0x89, 0x8B, 0x8F, 0x92, 0x93, 0x97, 0x9B, 0x9C, 0x9E, 0x9F, 0xA3, 0xA7,
  0xAB, 0xAF, 0xB2, 0xB3, 0xB7, 0xBB, 0xBF, 0xC2, 0xC3, 0xC7, 0xCB, 0xCF, 0xD2, 0xD3, 0xD4, 0xD7, 0xDA, 0xDB,
  0xDC, 0xDF, 0xE2, 0xE3, 0xE7, 0xEB, 0xEF, 0xF2, 0xF3, 0xF4, 0xF7, 0xFA, 0xFB, 0xFC, 0xFF]

/-- The opcodes that execute under SOURCE_V7 (R65). -/
def v7Opcodes : List Byte := [
  0xA5, 0xA9, 0xAD, 0xB5, 0xB9, 0xBD, 0xA2, 0xA6, 0xAE, 0xB6, 0xBE, 0xA0, 0xA4, 0xAC, 0xB4, 0xBC, 0x85, 0x8D,
  0x95, 0x99, 0x9D, 0xAA, 0x00]

/-- The unlisted bytes are those of the 256 that the table has no row for. -/
theorem unlistedOpcodes_eq_filter :
    unlistedOpcodes = ((List.finRange 256).map BitVec.ofFin).filter fun op => (lookup op).isNone := by decide

/-- R63: the table has no row for the unlisted bytes, and for them alone. -/
theorem lookup_eq_none_iff (op : Byte) : lookup op = none ↔ op ∈ unlistedOpcodes := by
  have hbyte : op ∈ (List.finRange 256).map BitVec.ofFin := List.mem_map.mpr ⟨op.toFin, List.mem_finRange _, rfl⟩
  rw [unlistedOpcodes_eq_filter, List.mem_filter, Option.isNone_iff_eq_none]
  exact (and_iff_right hbyte).symm

theorem unlistedOpcodes_nodup : unlistedOpcodes.Nodup := by
  rw [unlistedOpcodes_eq_filter]
  refine List.Pairwise.filter _ (List.Pairwise.map _ (fun a b hne heq => ?_) (List.nodup_finRange 256))
  exact hne (BitVec.ofFin.inj heq)

/-- What holds of the rows of each high nibble holds of the table. -/
theorem forall_opcodeTable {P : Row → Prop} (h : ∀ rows ∈ opcodeMap, ∀ r ∈ rows, P r) : ∀ r ∈ opcodeTable, P r := by
  intro r hr
  obtain ⟨rows, hrows, hmem⟩ := List.mem_flatten.mp hr
  exact h rows hrows r hmem

/-- A byte is looked up to a row of the table, the row of that byte. -/
theorem mem_opcodeTable_of_lookup {op : Byte} {r : Row} (h : lookup op = some r) : r ∈ opcodeTable ∧ r.opcode = op := by
  have hrow := List.mem_of_find?_eq_some h
  have hop := (List.find?_eq_some_iff_append.mp h).1
  refine ⟨List.mem_flatten.mpr ⟨_, ?_, hrow⟩, beq_iff_eq.mp hop⟩
  rw [List.getD_eq_getElem?_getD] at hrow ⊢
  cases hn : opcodeMap[op.toNat / 16]? with
  | none => simp [hn] at hrow
  | some rows => exact List.mem_of_getElem? hn

/-- Whatever the operand bytes, a row builds an instruction of its own opcode. -/
theorem build_opcode {r : Row} (h : r ∈ opcodeTable) (b1 b2 : Byte) : (r.build b1 b2).opcode = r.opcode := by
  have rowByRow : opcodeMap.map (List.map fun r => (r.build b1 b2).opcode) = opcodeMap.map (List.map (·.opcode)) := rfl
  exact forall_opcodeTable (fun rows hrows => List.map_inj_left.mp (List.map_inj_left.mp rowByRow rows hrows)) r h

theorem opcodeTable_length : ∀ r ∈ opcodeTable, r.length = 1 ∨ r.length = 2 ∨ r.length = 3 :=
  forall_opcodeTable (by decide)

theorem opcodeTable_full : ∀ r ∈ opcodeTable, r.profiles.contains .full = true := forall_opcodeTable (by decide)

theorem opcodeTable_sourceV7 : ∀ r ∈ opcodeTable, r.profiles.contains .sourceV7 = decide (r.opcode ∈ v7Opcodes) :=
  forall_opcodeTable (by decide)

/-- With three bytes at hand, a byte that has a row decodes to an instruction of that opcode. -/
theorem decode_of_lookup {op : Byte} {r : Row} (h : lookup op = some r) (b1 b2 : Byte) :
    ∃ i rest, decode [op, b1, b2] = .ok i rest ∧ i.opcode = op := by
  obtain ⟨hmem, rfl⟩ := mem_opcodeTable_of_lookup h
  simp only [decode, h]
  rcases opcodeTable_length r hmem with hl | hl | hl <;> rw [hl] <;> exact ⟨_, _, rfl, build_opcode hmem _ _⟩

/-- A byte without a row ends decoding, whatever follows it. -/
theorem decode_of_lookup_none {op : Byte} (h : lookup op = none) (rest : List Byte) :
    decode (op :: rest) = .unrecognizedOpcode op := by
  simp only [decode, h]

namespace Machine

/-- Nothing is fetched exactly where the byte at PC has no row. -/
theorem State.fetchInstr_eq_none_iff (s : State) : s.fetchInstr = none ↔ lookup (s.read s.pc) = none := by
  simp only [fetchInstr, decodeBytes, Option.map_eq_none_iff]

/-- The fetched instruction is built by the row of the byte at PC, which is its opcode. -/
theorem State.lookup_of_fetchInstr {s : State} {i : Instr} (h : s.fetchInstr = some i) :
    s.read s.pc = i.opcode ∧ ∃ r ∈ opcodeTable, r.opcode = i.opcode ∧ lookup i.opcode = some r := by
  obtain ⟨r, hr, rfl⟩ := Option.map_eq_some_iff.mp h
  obtain ⟨hmem, hop⟩ := mem_opcodeTable_of_lookup hr
  rw [build_opcode hmem, hop]
  exact ⟨rfl, r, hmem, hop, hr⟩

/-- R65: FULL executes every fetched instruction. -/
theorem executesUnder_full {s : State} {i : Instr} (h : s.fetchInstr = some i) : i.executesUnder .full = true := by
  obtain ⟨-, r, hmem, -, hr⟩ := State.lookup_of_fetchInstr h
  simp only [Instr.executesUnder, hr, opcodeTable_full r hmem]

/-- R65: SOURCE_V7 executes the fetched instruction exactly when its opcode is one of the 23. -/
theorem executesUnder_sourceV7 {s : State} {i : Instr} (h : s.fetchInstr = some i) :
    i.executesUnder .sourceV7 = decide (i.opcode ∈ v7Opcodes) := by
  obtain ⟨-, r, hmem, hop, hr⟩ := State.lookup_of_fetchInstr h
  simp only [Instr.executesUnder, hr, opcodeTable_sourceV7 r hmem, hop]

/-- The step of a machine whose profile executes the fetched instruction (40_controller_resolver.md R71, R72). -/
theorem step_of_executes {s : State} {i : Instr} (hm : s.mode = .running) (hf : s.fetchInstr = some i)
    (he : i.executesUnder s.cfg.execProfile = true) : step s = finishResult i (exec i s.fetched) := by
  simp only [step, controllerStep, hm, runningStep, hf, he, if_true]

/-- The step of a machine whose profile does not execute the fetched instruction (R65). -/
theorem step_of_not_executes {s : State} {i : Instr} (hm : s.mode = .running) (hf : s.fetchInstr = some i)
    (he : i.executesUnder s.cfg.execProfile = false) : step s = .next (faultedState .unimplementedOpcode s) := by
  simp [step, controllerStep, hm, runningStep, hf, he, faultedState_eq]

/-- The step of a machine whose opcode byte has no row (R63). -/
theorem step_of_fetchInstr_none {s : State} (hm : s.mode = .running) (hf : s.fetchInstr = none) :
    step s = .next (faultedState .unrecognizedOpcode s) := by
  simp only [step, controllerStep, hm, runningStep, hf, faultedState_eq]

/-- Settles O3: the unlisted bytes are the ones without a row, so nothing is fetched there, and every other byte has a
row that builds an instruction of its opcode. -/
theorem unlistedOpcodesRaiseUnrecognized : Obligations.UnlistedOpcodesRaiseUnrecognized := by
  refine ⟨rfl, unlistedOpcodes_nodup, fun op hop => ?unlisted, fun op hop b1 b2 => ?listed⟩
  case unlisted =>
    have hnone : lookup op = none := (lookup_eq_none_iff op).mpr hop
    refine ⟨decode_of_lookup_none hnone, ?_⟩
    rintro s hm rfl
    exact step_of_fetchInstr_none hm (s.fetchInstr_eq_none_iff.mpr hnone)
  case listed =>
    obtain ⟨r, hr⟩ := Option.ne_none_iff_exists'.mp (mt (lookup_eq_none_iff op).mp hop)
    exact decode_of_lookup hr b1 b2

/-- Settles O20: the fetched instruction has a row, whose profiles say whether the step executes it. -/
theorem profilesSelectWhatExecutes : Obligations.ProfilesSelectWhatExecutes := by
  refine ⟨rfl, by decide, fun s i hm hf => ⟨fun hexec => ?executes, fun hv7 hop => ?unimplemented⟩⟩
  case executes =>
    refine step_of_executes hm hf ?_
    cases hp : s.cfg.execProfile with
    | full => exact executesUnder_full hf
    | sourceV7 =>
      have hop : i.opcode ∈ v7Opcodes := hexec.resolve_left (by simp [hp])
      rw [executesUnder_sourceV7 hf, decide_eq_true hop]
  case unimplemented =>
    have hno : i.executesUnder s.cfg.execProfile = false := by
      rw [hv7, executesUnder_sourceV7 hf]
      exact decide_eq_false hop
    rw [step_of_not_executes hm hf hno, faultedState, (State.lookup_of_fetchInstr hf).1]

end Machine

end Sys2Proof
end

section
/-! The effective address of the fetched instruction (40_controller_resolver.md R76 to R84): its operand is the bytes after
the opcode, assembled as its form says, and the resolver's sums are sums of numbers that wrap. -/

namespace Sys2Proof

open Machine

/-! ## The resolver's operations as arithmetic -/

theorem zext16_eq_ofNat (b : Byte) : zext16 b = BitVec.ofNat 16 b.toNat := (BitVec.ofNat_toNat 16 b).symm

/-- An index is added to a zero-page byte before the byte becomes an address, so the sum stays in page 0. -/
theorem zext16_add (a b : Byte) : zext16 (a + b) = BitVec.ofNat 16 ((a.toNat + b.toNat) % 256) := by
  rw [zext16_eq_ofNat, BitVec.toNat_add]

theorem word_eq_ofNat (h l : Byte) : word h l = BitVec.ofNat 16 (l.toNat + 256 * h.toNat) := by
  rw [← word_toNat, BitVec.ofNat_toNat, BitVec.setWidth_eq]

/-- An index is added to a word with 16-bit wrap. -/
theorem add_zext16 (w : Addr) (b : Byte) : w + zext16 b = BitVec.ofNat 16 ((w.toNat + b.toNat) % 65536) := by
  apply BitVec.eq_of_toNat_eq
  rw [BitVec.toNat_add, zext16_toNat, BitVec.toNat_ofNat, Nat.mod_mod]

theorem word_add_zext16 (h l b : Byte) :
    word h l + zext16 b = BitVec.ofNat 16 ((l.toNat + 256 * h.toNat + b.toNat) % 65536) := by
  rw [add_zext16, word_toNat]

/-- A zero-page pointer (20_memory.md R43) at a page-0 offset that is given as an unwrapped sum. -/
theorem Machine.State.zpRead16_toNat (s : State) {z : Byte} {n : Nat} (hz : z.toNat = n % 256) :
    (s.zpRead16 z).toNat = (s.read (BitVec.ofNat 16 (n % 256))).toNat
      + 256 * (s.read (BitVec.ofNat 16 ((n + 1) % 256))).toNat := by
  have hnext : (z.toNat + (1 : Byte).toNat) % 256 = (n + 1) % 256 := by rw [hz]; exact Nat.mod_add_mod n 256 1
  rw [State.zpRead16, word_toNat, zext16_add, hnext, zext16_eq_ofNat, hz]

/-! ## The operand of the fetched instruction -/

/-- The operand of a form, given the two bytes after the opcode (30_encoding.md R57 to R59). -/
def Form.assemble (f : Form) (b1 b2 : Byte) : Operand :=
  match f with
  | .immediate => .immediate b1
  | .zeroPage => .zeroPage b1
  | .zeroPageX => .zeroPageX b1
  | .zeroPageY => .zeroPageY b1
  | .absolute => .absolute (word b2 b1)
  | .absoluteX => .absoluteX (word b2 b1)
  | .absoluteY => .absoluteY (word b2 b1)
  | .indirectX => .indirectX b1
  | .indirectY => .indirectY b1
  | .implied => .implied
  | .accumulator => .accumulator
  | .relative => .relative b1
  | .absoluteTarget => .absoluteTarget (word b2 b1)
  | .indirectTarget => .indirectTarget (word b2 b1)

@[simp] theorem Form.form_assemble (f : Form) (b1 b2 : Byte) : (f.assemble b1 b2).form = f := by cases f <;> rfl

/-- A row builds the operand that its form assembles. -/
theorem build_operand {r : Row} (h : r ∈ opcodeTable) (b1 b2 : Byte) :
    (r.build b1 b2).operand = r.form.assemble b1 b2 := by
  have rowByRow : opcodeMap.map (List.map fun r => (r.build b1 b2).operand)
      = opcodeMap.map (List.map fun r => r.form.assemble b1 b2) := rfl
  exact forall_opcodeTable (fun rows hrows => List.map_inj_left.mp (List.map_inj_left.mp rowByRow rows hrows)) r h

/-- R79: the two opcodes of the ZeroPage_Y mode. -/
theorem opcodeTable_zeroPageY : ∀ r ∈ opcodeTable, r.form = .zeroPageY → r.opcode = 0xB6 ∨ r.opcode = 0x96 :=
  forall_opcodeTable (by decide)

/-- R83, R84: no opcode of the two indirect modes executes under SOURCE_V7. -/
theorem opcodeTable_indirect :
    ∀ r ∈ opcodeTable, r.form = .indirectX ∨ r.form = .indirectY → r.opcode ∉ v7Opcodes :=
  forall_opcodeTable (by decide)

namespace Machine

/-- The fetched instruction has the opcode and the form of a row, and its operand is assembled from the bytes after the
opcode. -/
theorem State.row_of_fetchInstr {s : State} {i : Instr} (h : s.fetchInstr = some i) :
    ∃ r ∈ opcodeTable, i.opcode = r.opcode ∧ i.form = r.form ∧
      i.operand = i.form.assemble (s.read (s.pc + 1)) (s.read (s.pc + 2)) := by
  obtain ⟨r, hr, rfl⟩ := Option.map_eq_some_iff.mp h
  have hmem := (mem_opcodeTable_of_lookup hr).1
  have hop := build_operand hmem (s.read (s.pc + 1)) (s.read (s.pc + 2))
  have hform : (r.build (s.read (s.pc + 1)) (s.read (s.pc + 2))).form = r.form := by
    rw [Instr.form, hop, Form.form_assemble]
  exact ⟨r, hmem, build_opcode hmem _ _, hform, hform ▸ hop⟩

/-- Settles O13: by form, the assembled operand resolves to the sum that the mode names. -/
theorem effectiveAddresses : Obligations.EffectiveAddresses := by
  intro s i hf
  obtain ⟨r, hmem, hopcode, hrow, hop⟩ := State.row_of_fetchInstr hf
  rw [hop]
  refine ⟨fun h => ?immediate, fun h => ?zeroPage, fun h => ?zeroPageX, fun h => ⟨?zeroPageY, ?opcodes⟩, fun h => ?absolute,
    fun h => ?absoluteX, fun h => ?absoluteY⟩
  case opcodes => exact hopcode ▸ opcodeTable_zeroPageY r hmem (hrow ▸ h)
  all_goals rw [h]
  case immediate => exact ⟨rfl, rfl⟩
  case zeroPage => exact congrArg some (zext16_eq_ofNat _)
  case zeroPageX | zeroPageY => exact congrArg some (zext16_add _ _)
  case absolute => exact congrArg some (word_eq_ofNat _ _)
  case absoluteX | absoluteY => exact congrArg some (word_add_zext16 _ _ _)

/-- An instruction whose row does not execute under SOURCE_V7 is unimplemented there, wherever it is fetched. -/
theorem unimplementedUnderV7_of_not_mem {i : Instr} (h : i.opcode ∉ v7Opcodes) : UnimplementedUnderV7 i := by
  intro s hm hv7 hf
  refine step_of_not_executes hm hf ?_
  rw [hv7, executesUnder_sourceV7 hf]
  exact decide_eq_false h

/-- Settles O14: the pointer is read from page 0 at a wrapped sum, and no row of the two modes executes under SOURCE_V7. -/
theorem indirectEffectiveAddresses : Obligations.IndirectEffectiveAddresses := by
  intro s i hf
  obtain ⟨r, hmem, hopcode, hrow, hop⟩ := State.row_of_fetchInstr hf
  refine ⟨fun h => ?indirectX, fun h => ?indirectY, fun h => ?unimplemented⟩
  case indirectX =>
    have hz := s.zpRead16_toNat (BitVec.toNat_add (s.read (s.pc + 1)) s.x)
    rw [hop, h, ← hz, BitVec.ofNat_toNat, BitVec.setWidth_eq]
    rfl
  case indirectY =>
    have hz := s.zpRead16_toNat (Nat.mod_eq_of_lt (s.read (s.pc + 1)).isLt).symm
    rw [hop, h, ← hz, ← add_zext16]
    rfl
  case unimplemented =>
    exact unimplementedUnderV7_of_not_mem (hopcode ▸ opcodeTable_indirect r hmem (hrow ▸ h))

end Machine

end Sys2Proof
end

section
/-! Dispatch by mnemonic (40_controller_resolver.md R71), and where PC stands after an instruction and after its step
(R72). -/

namespace Sys2Proof

open Machine

/-- What dispatch calls for a mnemonic, whatever the operand form. A control transfer takes its operand apart in an arm of
its own, so there this is the arm. -/
def Mnemonic.meaning (m : Mnemonic) (i : Instr) (s : State) : Result :=
  match m with
  | .LDA => load .a i s
  | .LDX => load .x i s
  | .LDY => load .y i s
  | .STA => store .a i s
  | .STX => store .x i s
  | .STY => store .y i s
  | .TAX => transfer .a .x s
  | .TAY => transfer .a .y s
  | .TXA => transfer .x .a s
  | .TYA => transfer .y .a s
  | .TSX => transfer .sp .x s
  | .TXS => execTxs s
  | .ADC => adc i s
  | .SBC => sbc i s
  | .AND => logic (· &&& ·) i s
  | .ORA => logic (· ||| ·) i s
  | .EOR => logic (· ^^^ ·) i s
  | .CMP => compareReg .a i s
  | .CPX => compareReg .x i s
  | .CPY => compareReg .y i s
  | .BIT => bitTest i s
  | .INC => readModifyWrite (· + 1) i s
  | .DEC => readModifyWrite (· - 1) i s
  | .INX => bump .x (· + 1) s
  | .INY => bump .y (· + 1) s
  | .DEX => bump .x (· - 1) s
  | .DEY => bump .y (· - 1) s
  | .ASL => shift shiftAsl i s
  | .LSR => shift shiftLsr i s
  | .ROL => shift shiftRol i s
  | .ROR => shift shiftRor i s
  | .CLC => execClc s
  | .SEC => execSec s
  | .CLI => execCli s
  | .SEI => execSei s
  | .CLD => execCld s
  | .SED => execSed s
  | .CLV => execClv s
  | .PHA => execPha s
  | .PHP => execPhp s
  | .PLA => execPla s
  | .PLP => execPlp s
  | .BRK => execBrk s
  | .NOP => execNop s
  | .JMP | .JSR | .RTS | .RTI | .BPL | .BMI | .BVC | .BVS | .BCC | .BCS | .BNE | .BEQ => exec i s

/-- The arms of one mnemonic are one meaning, applied to the instruction itself. -/
theorem exec_eq_meaning (i : Instr) (s : State) : exec i s = i.mnemonic.meaning i s := by cases i <;> rfl

namespace Machine

/-- The result is a next state, and its PC is `pc`. -/
def AnswersAt (r : Result) (pc : Addr) : Prop := ∃ t, r = .next t ∧ t.pc = pc

theorem withValue_answersAt {i : Instr} {s : State} {k : Byte → State} (hk : ∀ m, (k m).pc = s.pc) :
    AnswersAt (withValue i s k) s.pc := by
  unfold withValue
  split
  · exact ⟨_, rfl, hk _⟩
  · exact ⟨_, rfl, raise_pc ..⟩

theorem withAddress_answersAt {i : Instr} {s : State} {k : Addr → State} (hk : ∀ ea, (k ea).pc = s.pc) :
    AnswersAt (withAddress i s k) s.pc := by
  unfold withAddress
  split
  · exact ⟨_, rfl, hk _⟩
  · exact ⟨_, rfl, raise_pc ..⟩

theorem shift_answersAt (f : Byte → Bool → Shifted) (i : Instr) (s : State) : AnswersAt (shift f i s) s.pc := by
  unfold shift
  split
  · exact ⟨_, rfl, rfl⟩
  · exact withAddress_answersAt fun _ => rfl

/-- Neither ADC and SBC nor the fault that refuses them moves PC (43_alu.md R114). -/
theorem State.orDecimalFault_pc (s : State) (i : Instr) {t : State} (ht : t.pc = s.pc) :
    (s.orDecimalFault i t).pc = s.pc := by
  unfold orDecimalFault
  split
  · rfl
  · exact ht

/-- A mnemonic that is no control transfer leaves PC where it is, also where it halts or faults. -/
theorem meaning_answersAt {m : Mnemonic} (hm : m.isControlTransfer = false) (i : Instr) (s : State) :
    AnswersAt (m.meaning i s) s.pc := by
  cases m with
  | LDA | LDX | LDY | AND | ORA | EOR | CMP | CPX | CPY | BIT => exact withValue_answersAt fun _ => rfl
  | ADC | SBC => exact withValue_answersAt fun _ => s.orDecimalFault_pc i rfl
  | STA | STX | STY | INC | DEC => exact withAddress_answersAt fun _ => rfl
  | ASL | LSR | ROL | ROR => exact shift_answersAt _ i s
  | TAX | TAY | TXA | TYA | TSX | TXS | INX | INY | DEX | DEY | CLC | SEC | CLI | SEI | CLD | SED | CLV
  | PHA | PHP | PLA | PLP | BRK | NOP => exact ⟨_, rfl, rfl⟩
  | JMP | JSR | RTS | RTI | BPL | BMI | BVC | BVS | BCC | BCS | BNE | BEQ => exact absurd hm (by decide)

/-- An instruction that is no control transfer answers a next state with the same PC. -/
theorem exec_answersAt {i : Instr} (hi : i.isControlTransfer = false) (s : State) : AnswersAt (exec i s) s.pc := by
  rw [exec_eq_meaning]
  exact meaning_answersAt hi i s

/-- A control transfer answers a next state. -/
theorem exec_controlTransfer {i : Instr} (hi : i.isControlTransfer = true) (s : State) : ∃ t, exec i s = .next t := by
  cases i with
  | jmpAbs _ | jmpInd _ | jsr _ | rts | rti | bpl _ | bmi _ | bvc _ | bvs _ | bcc _ | bcs _ | bne _ | beq _ => exact ⟨_, rfl⟩
  | _ => exact Bool.noConfusion hi

/-- Every instruction answers a next state; one that is no control transfer leaves PC to the controller (R138). -/
theorem exec_next (i : Instr) (s : State) :
    ∃ t, exec i s = .next t ∧ (i.isControlTransfer = false → t.pc = s.pc) := by
  cases hi : i.isControlTransfer with
  | true =>
    obtain ⟨t, ht⟩ := exec_controlTransfer hi s
    exact ⟨t, ht, nofun⟩
  | false =>
    obtain ⟨t, ht, hpc⟩ := exec_answersAt hi s
    exact ⟨t, ht, fun _ => hpc⟩

/-- The fetch and the operand width together are the length (R72). -/
theorem add_one_add_width (pc : Addr) (i : Instr) : pc + 1 + BitVec.ofNat 16 i.width = pc + BitVec.ofNat 16 i.length := by
  rw [Instr.length, BitVec.ofNat_add, BitVec.add_assoc]
  rfl

/-- The step of an instruction that executes and answers `t` ends with the advance from `t` (R72). -/
theorem step_of_exec_next {s t : State} {i : Instr} (hm : s.mode = .running) (hf : s.fetchInstr = some i)
    (he : i.executesUnder s.cfg.execProfile = true) (ht : exec i s.fetched = .next t) :
    step s = .next (finishStep i t) := by
  rw [step_of_executes hm hf he, ht]
  rfl

theorem finishStep_eq_with_pc (i : Instr) (t : State) : finishStep i t = { t with pc := (finishStep i t).pc } := by
  obtain ⟨v, hv⟩ := finishStep_setPc i t
  rw [hv]
  rfl

/-- Settles O18: the fetch adds 1, the instruction itself leaves PC alone, and the end of the step adds the width. -/
theorem pcAdvancesByTheLength : Obligations.PcAdvancesByTheLength := by
  intro s i hm hf he
  obtain ⟨t, ht, hpc⟩ := exec_next i s.fetched
  refine ⟨t, finishStep i t, ht, step_of_exec_next hm hf he ht, finishStep_eq_with_pc i t, fun hi hrun => ?advance,
    fun hi => ?transfer⟩
  case advance => rw [finishStep_advance hrun hi, State.setPc_pc, hpc hi, State.fetched_pc, add_one_add_width]
  case transfer => rw [finishStep_stay (.inr hi)]

end Machine

end Sys2Proof
end

section
/-! The rows of a mnemonic (30_encoding.md R61, R65): the form and the opcode byte of every instruction, and whether it
executes under SOURCE_V7, are read off the opcode table. -/

namespace Sys2Proof

open Machine

/-- The operand forms and opcode bytes that the opcode table gives a mnemonic, in the order of the bytes. -/
def Mnemonic.rows (m : Mnemonic) : List (Form × Byte) :=
  (opcodeTable.filter fun r => r.mnemonic = m).map fun r => (r.form, r.opcode)

/-- The opcode byte of an instruction is looked up to the instruction's own row. -/
theorem Instr.tableRow (i : Instr) : Laws.TableRow.Statement i := by
  cases i <;> exact ⟨by dsimp only [Instr.opcode]; rfl, rfl, rfl⟩

theorem Instr.exists_lookup (i : Instr) :
    ∃ r ∈ opcodeTable, lookup i.opcode = some r ∧ r.opcode = i.opcode ∧ r.mnemonic = i.mnemonic ∧ r.form = i.form := by
  obtain ⟨hrow, -, -⟩ := i.tableRow
  obtain ⟨r, hr, heq⟩ := Option.map_eq_some_iff.mp hrow
  obtain ⟨hmem, hop⟩ := mem_opcodeTable_of_lookup hr
  obtain ⟨hm, hf, -⟩ : r.mnemonic = i.mnemonic ∧ r.form = i.form ∧ r.length = i.length := by simpa using heq
  exact ⟨r, hmem, hr, hop, hm, hf⟩

/-- An instruction has a row of its mnemonic (R61). -/
theorem Instr.mem_rows {i : Instr} {m : Mnemonic} (h : i.mnemonic = m) : (i.form, i.opcode) ∈ m.rows := by
  obtain ⟨r, hmem, -, hop, hm, hf⟩ := i.exists_lookup
  rw [← hop, ← hf]
  exact List.mem_map_of_mem (List.mem_filter.mpr ⟨hmem, decide_eq_true (hm.trans h)⟩)

/-- R65: SOURCE_V7 executes an instruction exactly when its opcode is one of the 23. -/
theorem Instr.executesUnder_sourceV7_iff (i : Instr) : i.executesUnder .sourceV7 = true ↔ i.opcode ∈ v7Opcodes := by
  obtain ⟨r, hmem, hr, hop, -, -⟩ := i.exists_lookup
  simp only [Instr.executesUnder, hr, opcodeTable_sourceV7 r hmem, hop, decide_eq_true_eq]

/-- Where a condition names exactly the opcodes outside the 23, it decides between the two clauses of R65. -/
theorem Instr.sourceV7_clause {i : Instr} {refused : Prop} [Decidable refused]
    (h : i.opcode ∈ v7Opcodes ↔ ¬ refused) :
    if refused then UnimplementedUnderV7 i else i.executesUnder .sourceV7 = true := by
  split
  case isTrue hr => exact unimplementedUnderV7_of_not_mem fun hop => h.mp hop hr
  case isFalse hr => exact i.executesUnder_sourceV7_iff.mpr (h.mpr hr)

/-- Dispatch on a known mnemonic. -/
theorem exec_of_mnemonic {i : Instr} {m : Mnemonic} (h : i.mnemonic = m) (s : State) : exec i s = m.meaning i s :=
  h ▸ exec_eq_meaning i s

/-- The instruction's form is one of the nine memory modes, those that have an effective address
(40_controller_resolver.md R85). -/
def Instr.HasMemoryMode (i : Instr) : Prop := i.form.mode ≠ .noneAddressing

theorem Instr.hasMemoryMode_of_rows {i : Instr} {m : Mnemonic} (h : i.mnemonic = m)
    (hrows : ∀ row ∈ m.rows, row.1.mode ≠ .noneAddressing) : i.HasMemoryMode :=
  hrows _ (mem_rows h)

theorem Instr.HasMemoryMode.exists_value {i : Instr} (h : i.HasMemoryMode) (s : State) :
    ∃ m, i.operand.value s = some m :=
  Option.isSome_iff_exists.mp ((i.operand.value_isSome s).mpr h)

theorem Instr.HasMemoryMode.exists_address {i : Instr} (h : i.HasMemoryMode) (s : State) :
    ∃ ea, i.operand.address s = some ea :=
  Option.isSome_iff_exists.mp ((i.operand.address_isSome s).mpr h)

end Sys2Proof
end

section
/-! Loads and stores (41_load_store.md R89 to R94): what the shared meaning of each family answers, and the rows of each
mnemonic. -/

namespace Sys2Proof.Machine

/-- SetNZ gives the Z and N of the result and keeps the other flags (10_state.md R30). -/
theorem setsFlags_putNZ (p r : Byte) : SetsFlags p (putNZ p r) (resultFlags r) := by
  have hz : (r == 0x00) = decide (r.toNat = 0) := Bool.eq_iff_iff.mpr (by simp [BitVec.toNat_eq])
  have hn : r.getLsbD 7 = decide (128 ≤ r.toNat) := (BitVec.msb_eq_getLsbD_last r).symm.trans (BitVec.msb_eq_decide r)
  intro f
  rw [getFlag_putNZ, hz, hn]
  cases f <;> rfl

/-- A load writes its register, Z and N, and no more (R89 to R91). -/
theorem load_answers (r : Reg) {i : Instr} (hi : i.HasMemoryMode) (s : State) :
    ∃ m p', i.operand.value s = some m ∧ SetsFlags s.p p' (resultFlags m) ∧
      load r i s = .next { s.setReg r m with p := p' } := by
  obtain ⟨m, hm⟩ := hi.exists_value s
  refine ⟨m, putNZ s.p m, hm, setsFlags_putNZ s.p m, ?_⟩
  rw [load_eq hm, State.setNZ, State.setReg_p]
  rfl

/-- A store writes its register to one cell, and no more (R92 to R94). -/
theorem store_answers (r : Reg) {i : Instr} (hi : i.HasMemoryMode) (s : State) :
    ∃ ea, i.operand.address s = some ea ∧ store r i s = .next (s.write ea (s.getReg r)) := by
  obtain ⟨ea, hea⟩ := hi.exists_address s
  exact ⟨ea, hea, store_eq hea⟩

/-- R89: SOURCE_V7 lacks the two indirect forms of LDA. -/
theorem rows_LDA_sourceV7 : ∀ row ∈ Mnemonic.LDA.rows, row.2 ∈ v7Opcodes ↔ ¬ (row.2 = 0xA1 ∨ row.2 = 0xB1) := by decide

/-- R92: SOURCE_V7 lacks the two indirect forms of STA. -/
theorem rows_STA_sourceV7 : ∀ row ∈ Mnemonic.STA.rows, row.2 ∈ v7Opcodes ↔ ¬ (row.2 = 0x81 ∨ row.2 = 0x91) := by decide

/-- R90: SOURCE_V7 has every form of LDX. -/
theorem rows_LDX_sourceV7 : ∀ row ∈ Mnemonic.LDX.rows, row.2 ∈ v7Opcodes := by decide

/-- R91: SOURCE_V7 has every form of LDY. -/
theorem rows_LDY_sourceV7 : ∀ row ∈ Mnemonic.LDY.rows, row.2 ∈ v7Opcodes := by decide

/-- R93: SOURCE_V7 has no form of STX. -/
theorem rows_STX_sourceV7 : ∀ row ∈ Mnemonic.STX.rows, row.2 ∉ v7Opcodes := by decide

/-- R94: SOURCE_V7 has no form of STY. -/
theorem rows_STY_sourceV7 : ∀ row ∈ Mnemonic.STY.rows, row.2 ∉ v7Opcodes := by decide

/-- Settles O23: the table lists the rows of each mnemonic, and all of them dispatch to the load of its register. -/
theorem loadsWriteTheirRegister : Obligations.LoadsWriteTheirRegister := by
  intro i s
  refine ⟨fun h => ?LDA, fun h => ?LDX, fun h => ?LDY⟩
  all_goals
    have hrow := Instr.mem_rows h
    rw [exec_of_mnemonic h]
  case LDA =>
    exact ⟨hrow, Instr.sourceV7_clause (rows_LDA_sourceV7 _ hrow),
      load_answers .a (Instr.hasMemoryMode_of_rows h (by decide)) s⟩
  case LDX =>
    exact ⟨hrow, i.executesUnder_sourceV7_iff.mpr (rows_LDX_sourceV7 _ hrow),
      load_answers .x (Instr.hasMemoryMode_of_rows h (by decide)) s⟩
  case LDY =>
    exact ⟨hrow, i.executesUnder_sourceV7_iff.mpr (rows_LDY_sourceV7 _ hrow),
      load_answers .y (Instr.hasMemoryMode_of_rows h (by decide)) s⟩

/-- Settles O24: the table lists the rows of each mnemonic, and all of them dispatch to the store of its register. -/
theorem storesWriteOneCell : Obligations.StoresWriteOneCell := by
  intro i s
  refine ⟨fun h => ?STA, fun h => ?STX, fun h => ?STY⟩
  all_goals
    have hrow := Instr.mem_rows h
    rw [exec_of_mnemonic h]
  case STA =>
    exact ⟨hrow, Instr.sourceV7_clause (rows_STA_sourceV7 _ hrow),
      store_answers .a (Instr.hasMemoryMode_of_rows h (by decide)) s⟩
  case STX =>
    exact ⟨hrow, unimplementedUnderV7_of_not_mem (rows_STX_sourceV7 _ hrow),
      store_answers .x (Instr.hasMemoryMode_of_rows h (by decide)) s⟩
  case STY =>
    exact ⟨hrow, unimplementedUnderV7_of_not_mem (rows_STY_sourceV7 _ hrow),
      store_answers .y (Instr.hasMemoryMode_of_rows h (by decide)) s⟩

end Sys2Proof.Machine
end

section
/-! Register transfers (42_transfer.md R95 to R100): what the shared meaning of the five that set flags answers. -/

namespace Sys2Proof.Machine

/-- A transfer writes its destination, Z and N, and no more (R95 to R99). -/
theorem transfer_answers (src dst : Reg) (s : State) :
    ∃ p', SetsFlags s.p p' (resultFlags (s.getReg src)) ∧
      transfer src dst s = .next { s.setReg dst (s.getReg src) with p := p' } := by
  refine ⟨putNZ s.p (s.getReg src), setsFlags_putNZ s.p (s.getReg src), ?_⟩
  rw [transfer, State.setNZ, State.setReg_p]
  rfl

/-- Settles O25: five of the six dispatch to a transfer between their registers, and TXS writes SP alone; of their six
opcodes SOURCE_V7 executes that of TAX. -/
theorem transfersCopyRegisters : Obligations.TransfersCopyRegisters := by
  intro s
  refine ⟨⟨rfl, ?TAX_executes, ?TAX⟩, ⟨rfl, ?_, ?TAY⟩, ⟨rfl, ?_, ?TXA⟩, ⟨rfl, ?_, ?TYA⟩, ⟨rfl, ?_, ?TSX⟩,
    ⟨rfl, ?_, ?TXS⟩⟩
  case TAX_executes => exact Instr.tax.executesUnder_sourceV7_iff.mpr (by decide)
  case TAX => exact transfer_answers .a .x s
  case TAY => exact transfer_answers .a .y s
  case TXA => exact transfer_answers .x .a s
  case TYA => exact transfer_answers .y .a s
  case TSX => exact transfer_answers .sp .x s
  case TXS => exact exec_of_mnemonic rfl s
  all_goals exact unimplementedUnderV7_of_not_mem (by decide)

end Sys2Proof.Machine
end

section
/-! The adder (43_alu.md R101, R102): its result, carry and overflow as statements about numbers, for an addition and, with
the complement as second input, for a subtraction with borrow. -/

namespace Sys2Proof.Machine

theorem getLsbD_seven_eq_decide (b : Byte) : b.getLsbD 7 = decide (128 ≤ b.toNat) :=
  (BitVec.msb_eq_getLsbD_last b).symm.trans (BitVec.msb_eq_decide b)

theorem toInt_byte (b : Byte) : b.toInt = if b.toNat < 128 then (b.toNat : Int) else b.toNat - 256 := by
  rw [BitVec.toInt_eq_toNat_cond]
  split <;> split <;> omega

theorem toNat_not_byte (b : Byte) : (~~~b).toNat = 255 - b.toNat := BitVec.toNat_not

/-- The complement of a byte mirrors its two's-complement value about -1/2. -/
theorem toInt_not_byte (b : Byte) : (~~~b).toInt = -1 - b.toInt := by
  have hb := b.isLt
  rw [toInt_byte, toInt_byte, toNat_not_byte]
  split <;> split <;> omega

/-! ## The nine bits of the sum -/

theorem add8_result_toNat (a b : Byte) (cin : Bool) :
    (add8 a b cin).result.toNat = (a.toNat + b.toNat + cin.toNat) % 256 := BitVec.toNat_ofNat _ 8

theorem add8_carry_toNat (a b : Byte) (cin : Bool) :
    (add8 a b cin).carry.toNat = (a.toNat + b.toNat + cin.toNat) / 256 % 2 := Nat.toNat_testBit _ 8

/-- The sum in nine bits is the result with the carry above it (R101). -/
theorem add8_nine_bits (a b : Byte) (cin : Bool) :
    (add8 a b cin).result.toNat + 256 * (add8 a b cin).carry.toNat = a.toNat + b.toNat + cin.toNat := by
  have ha := a.isLt
  have hb := b.isLt
  have hc := cin.toNat_le
  rw [add8_result_toNat, add8_carry_toNat]
  omega

/-- The carry is 1 exactly when the unsigned sum does not fit in a byte. -/
theorem add8_carry (a b : Byte) (cin : Bool) :
    (add8 a b cin).carry = decide (256 ≤ a.toNat + b.toNat + cin.toNat) := by
  have hsum := add8_nine_bits a b cin
  have hr := (add8 a b cin).result.isLt
  have hc := (add8 a b cin).carry.toNat_le
  rw [Bool.eq_iff_iff, decide_eq_true_iff, ← Bool.toNat_eq_one]
  omega

/-! ## Overflow -/

/-- The overflow bit compares the signs of the inputs with the sign of the result (R101). -/
theorem add8_overflow_iff_signs (a b : Byte) (cin : Bool) :
    (add8 a b cin).overflow = true ↔
      a.getLsbD 7 = b.getLsbD 7 ∧ (add8 a b cin).result.getLsbD 7 ≠ a.getLsbD 7 := by
  have hbit : (add8 a b cin).overflow = ((a.getLsbD 7 ^^ (add8 a b cin).result.getLsbD 7) &&
      (b.getLsbD 7 ^^ (add8 a b cin).result.getLsbD 7)) := by
    rw [← BitVec.getLsbD_xor, ← BitVec.getLsbD_xor, ← BitVec.getLsbD_and]
    rfl
  rw [hbit]
  generalize a.getLsbD 7 = x, b.getLsbD 7 = y, (add8 a b cin).result.getLsbD 7 = z
  revert x y z
  decide

/-- Two inputs of one sign have a result of the other sign exactly when the signed sum leaves -128..127 (R101). -/
theorem add8_overflow_iff_signed (a b : Byte) (cin : Bool) :
    (add8 a b cin).overflow = true ↔
      a.toInt + b.toInt + (cin.toNat : Int) < -128 ∨ 127 < a.toInt + b.toInt + (cin.toNat : Int) := by
  have ha := a.isLt
  have hb := b.isLt
  have hc := cin.toNat_le
  rw [add8_overflow_iff_signs, getLsbD_seven_eq_decide, getLsbD_seven_eq_decide, getLsbD_seven_eq_decide,
    add8_result_toNat, toInt_byte, toInt_byte, decide_eq_decide, Ne, decide_eq_decide]
  split <;> split <;> omega

/-- With the complement as second input the signed sum is the difference, less 1 for a borrow (R102). -/
theorem add8_not_overflow_iff_signed (a m : Byte) (cin : Bool) :
    (add8 a (~~~m) cin).overflow = true ↔
      a.toInt - m.toInt - (1 - (cin.toNat : Int)) < -128 ∨ 127 < a.toInt - m.toInt - (1 - (cin.toNat : Int)) := by
  have hsum : a.toInt + (~~~m).toInt + (cin.toNat : Int) = a.toInt - m.toInt - (1 - (cin.toNat : Int)) := by
    rw [toInt_not_byte]
    omega
  rw [add8_overflow_iff_signed, hsum]

/-- Settles O12: the overflow bit is a statement about signs, which is one about the signed sum, and complementing the
second input turns that into the signed difference. -/
theorem adderCarryAndOverflow : Obligations.AdderCarryAndOverflow := fun a b cin =>
  ⟨add8_nine_bits a b cin, add8_overflow_iff_signed a b cin, add8_overflow_iff_signs a b cin,
    add8_not_overflow_iff_signed a b cin⟩

/-! ## The flags and the result that ADC and SBC write -/

/-- ADC and SBC set the adder's C and V, the result's Z and N, and keep the other flags (R105, R106). -/
theorem setsFlags_putSum (p : Byte) (t : Sum) :
    SetsFlags p (putSum p t) ([(.C, t.carry), (.V, t.overflow)] ++ resultFlags t.result) := by
  intro f
  rw [putSum, setsFlags_putNZ _ _ f, getFlag_putFlag, getFlag_putFlag]
  cases f <;> rfl

/-- What the adder returns for A + M + C (R105). -/
theorem add8_eq (a m : Byte) (cin : Bool) :
    let sum := a.toNat + m.toNat + cin.toNat
    let signed : Int := a.toInt + m.toInt + (cin.toNat : Int)
    add8 a m cin = ⟨BitVec.ofNat 8 sum, decide (256 ≤ sum), decide (signed < -128 ∨ 127 < signed)⟩ := by
  intro sum signed
  have hv : (add8 a m cin).overflow = decide (signed < -128 ∨ 127 < signed) :=
    Bool.eq_iff_iff.mpr ((add8_overflow_iff_signed a m cin).trans decide_eq_true_iff.symm)
  rw [← add8_carry, ← hv]
  rfl

/-- A + ~M + C is A - M - (1 - C) modulo 256. -/
theorem add8_not_result (a m : Byte) (cin : Bool) :
    (add8 a (~~~m) cin).result = a - m - BitVec.ofNat 8 (1 - cin.toNat) := by
  have hm := m.isLt
  have hc := cin.toNat_le
  apply BitVec.eq_of_toNat_eq
  rw [add8_result_toNat, toNat_not_byte, BitVec.toNat_sub, BitVec.toNat_sub, BitVec.toNat_ofNat]
  omega

/-- The carry out of A + ~M + C is 1 exactly when there is no borrow. -/
theorem add8_not_carry (a m : Byte) (cin : Bool) :
    (add8 a (~~~m) cin).carry = decide (m.toNat + (1 - cin.toNat) ≤ a.toNat) := by
  have hm := m.isLt
  have hc := cin.toNat_le
  rw [add8_carry, toNat_not_byte, decide_eq_decide]
  omega

/-- What the adder returns for A - M - (1 - C) (R106). -/
theorem add8_not_eq (a m : Byte) (cin : Bool) :
    let borrow := 1 - cin.toNat
    let signed : Int := a.toInt - m.toInt - (borrow : Int)
    add8 a (~~~m) cin = ⟨a - m - BitVec.ofNat 8 borrow, decide (m.toNat + borrow ≤ a.toNat),
      decide (signed < -128 ∨ 127 < signed)⟩ := by
  intro borrow signed
  have hborrow : (borrow : Int) = 1 - (cin.toNat : Int) := Int.ofNat_sub cin.toNat_le
  have hv : (add8 a (~~~m) cin).overflow = decide (signed < -128 ∨ 127 < signed) := by
    rw [Bool.eq_iff_iff, decide_eq_true_iff, add8_not_overflow_iff_signed, ← hborrow]
  rw [← add8_not_result, ← add8_not_carry, ← hv]

end Sys2Proof.Machine
end

section
/-! The instructions of the ALU (43_alu.md R103 to R114): what the shared meaning of each family answers, and the rows of
each mnemonic. -/

namespace Sys2Proof

open Machine

/-- A mnemonic none of whose rows is one of the 23 is unimplemented under SOURCE_V7 (30_encoding.md R65). -/
theorem Instr.unimplementedUnderV7_of_rows {i : Instr} {m : Mnemonic} (h : i.mnemonic = m)
    (hrows : ∀ row ∈ m.rows, row.2 ∉ v7Opcodes) : UnimplementedUnderV7 i :=
  unimplementedUnderV7_of_not_mem (hrows _ (mem_rows h))

namespace Machine

/-! ## ADC and SBC -/

/-- The decimal check (R114) refuses exactly under DECIMAL_MODE = REFUSE with D set. -/
theorem State.decimalRefused_iff (s : State) :
    s.decimalRefused = true ↔ s.cfg.decimalMode = .refuse ∧ s.flag .D = true := by
  rw [decimalRefused, Bool.and_eq_true, decide_eq_true_iff]

theorem State.decimalRefused_eq_false {s : State} (h : ¬ (s.cfg.decimalMode = .refuse ∧ s.flag .D = true)) :
    s.decimalRefused = false := Bool.eq_false_iff.mpr (mt s.decimalRefused_iff.mp h)

/-- Settles O26: all rows dispatch to `adc`, which writes what the adder returns for A + M + C, or refuses. -/
theorem adcAddsWithCarry : Obligations.AdcAddsWithCarry := by
  intro i s h
  obtain ⟨m, hm⟩ := (Instr.hasMemoryMode_of_rows h (by decide)).exists_value s
  rw [exec_of_mnemonic h]
  refine ⟨Instr.mem_rows h, Instr.unimplementedUnderV7_of_rows h (by decide), fun hd => ?binary, fun hd => ?refused⟩
  case binary =>
    have hflags := setsFlags_putSum s.p (add8 s.a m (s.flag .C))
    have hexec := adc_eq hm (State.decimalRefused_eq_false hd)
    rw [add8_eq] at hflags hexec
    exact ⟨m, _, hm, hflags, hexec⟩
  case refused => exact adc_refused hm (s.decimalRefused_iff.mpr hd)

/-- Settles O27: all rows dispatch to `sbc`, which writes what the adder returns for A + ~M + C, or refuses. -/
theorem sbcSubtractsWithBorrow : Obligations.SbcSubtractsWithBorrow := by
  intro i s h
  obtain ⟨m, hm⟩ := (Instr.hasMemoryMode_of_rows h (by decide)).exists_value s
  rw [exec_of_mnemonic h]
  refine ⟨Instr.mem_rows h, Instr.unimplementedUnderV7_of_rows h (by decide), fun hd => ?binary, fun hd => ?refused⟩
  case binary =>
    have hflags := setsFlags_putSum s.p (add8 s.a (~~~m) (s.flag .C))
    have hexec := sbc_eq hm (State.decimalRefused_eq_false hd)
    rw [add8_not_eq] at hflags hexec
    exact ⟨m, _, hm, hflags, hexec⟩
  case refused => exact sbc_refused hm (s.decimalRefused_iff.mpr hd)

/-! ## Logic -/

/-- A logic instruction writes A, Z and N, and no more (R104). -/
theorem logic_answers (f : Byte → Byte → Byte) {i : Instr} (hi : i.HasMemoryMode) (s : State) :
    ∃ m p', i.operand.value s = some m ∧ SetsFlags s.p p' (resultFlags (f s.a m)) ∧
      logic f i s = .next { s with a := f s.a m, p := p' } := by
  obtain ⟨m, hm⟩ := hi.exists_value s
  exact ⟨m, putNZ s.p (f s.a m), hm, setsFlags_putNZ s.p (f s.a m), logic_eq hm⟩

/-- Settles O28: the rows of each mnemonic dispatch to `logic` of its operation. -/
theorem logicInstructions : Obligations.LogicInstructions := by
  intro i s
  refine ⟨fun h => ⟨Instr.mem_rows h, ?_, ?AND⟩, fun h => ⟨Instr.mem_rows h, ?_, ?ORA⟩,
    fun h => ⟨Instr.mem_rows h, ?_, ?EOR⟩⟩
  case AND | ORA | EOR =>
    rw [exec_of_mnemonic h]
    exact logic_answers _ (Instr.hasMemoryMode_of_rows h (by decide)) s
  all_goals exact Instr.unimplementedUnderV7_of_rows h (by decide)

/-! ## Compare -/

/-- The comparator gives C "no borrow", Z equality and N bit 7 of the modular difference, and keeps the other flags
(R103). -/
theorem setsFlags_putCompare (p r m : Byte) :
    SetsFlags p (putCompare p r m) [(.C, decide (m.toNat ≤ r.toNat)), (.Z, decide (r = m)), (.N, (r - m).msb)] := by
  have hzero : r - m = 0x00 ↔ r = m := ⟨fun h => by bv_omega, fun h => h ▸ BitVec.sub_self r⟩
  have hz : (r - m == 0x00) = decide (r = m) := decide_eq_decide.mpr hzero
  have hn : (r - m).getLsbD 7 = (r - m).msb := (BitVec.msb_eq_getLsbD_last (r - m)).symm
  intro f
  rw [getFlag_putCompare, hz, hn]
  cases f <;> rfl

/-- A compare writes C, Z and N, and no more (R110 to R112). -/
theorem compareReg_answers (r : Reg) {i : Instr} (hi : i.HasMemoryMode) (s : State) :
    ∃ m p', i.operand.value s = some m ∧
      SetsFlags s.p p' [(.C, decide (m.toNat ≤ (s.getReg r).toNat)), (.Z, decide (s.getReg r = m)),
        (.N, (s.getReg r - m).msb)] ∧
      compareReg r i s = .next { s with p := p' } := by
  obtain ⟨m, hm⟩ := hi.exists_value s
  exact ⟨m, putCompare s.p (s.getReg r) m, hm, setsFlags_putCompare s.p (s.getReg r) m, compareReg_eq hm⟩

/-- Settles O29: the rows of each mnemonic dispatch to the compare of its register. -/
theorem compareInstructions : Obligations.CompareInstructions := by
  intro i s
  refine ⟨fun h => ⟨Instr.mem_rows h, ?_, ?CMP⟩, fun h => ⟨Instr.mem_rows h, ?_, ?CPX⟩,
    fun h => ⟨Instr.mem_rows h, ?_, ?CPY⟩⟩
  case CMP => exact exec_of_mnemonic h s ▸ compareReg_answers .a (Instr.hasMemoryMode_of_rows h (by decide)) s
  case CPX => exact exec_of_mnemonic h s ▸ compareReg_answers .x (Instr.hasMemoryMode_of_rows h (by decide)) s
  case CPY => exact exec_of_mnemonic h s ▸ compareReg_answers .y (Instr.hasMemoryMode_of_rows h (by decide)) s
  all_goals exact Instr.unimplementedUnderV7_of_rows h (by decide)

/-! ## Bit test -/

/-- BIT gives Z from A & M, N and V from bits 7 and 6 of M, and keeps the other flags (R113). -/
theorem setsFlags_putBitTest (p a m : Byte) :
    SetsFlags p (putBitTest p a m) [(.Z, decide (a &&& m = 0x00)), (.N, m.getLsbD 7), (.V, m.getLsbD 6)] := by
  intro f
  rw [getFlag_putBitTest]
  cases f <;> rfl

/-- Settles O30: both rows dispatch to `bitTest`, which writes P alone. The name `bitTest` is the model's, so the theorem
has a namespace of its own. -/
theorem Alu.bitTest : Obligations.BitTest := by
  intro i s h
  obtain ⟨m, hm⟩ := (Instr.hasMemoryMode_of_rows h (by decide)).exists_value s
  rw [exec_of_mnemonic h]
  exact ⟨Instr.mem_rows h, Instr.unimplementedUnderV7_of_rows h (by decide), m, putBitTest s.p s.a m, hm,
    setsFlags_putBitTest s.p s.a m, bitTest_eq hm⟩

end Machine

end Sys2Proof
end

section
/-! Increment and decrement (44_incdec.md R116 to R121): what the shared meaning on a memory cell and the one on a register
answer, for every operation on a byte. -/

namespace Sys2Proof.Machine

/-- A read-modify-write instruction writes one cell, Z and N, and no more (R116, R117). -/
theorem readModifyWrite_answers (f : Byte → Byte) {i : Instr} (hi : i.HasMemoryMode) (s : State) :
    ∃ ea p', i.operand.address s = some ea ∧ SetsFlags s.p p' (resultFlags (f (s.read ea))) ∧
      readModifyWrite f i s = .next { s.write ea (f (s.read ea)) with p := p' } := by
  obtain ⟨ea, hea⟩ := hi.exists_address s
  exact ⟨ea, putNZ s.p (f (s.read ea)), hea, setsFlags_putNZ s.p (f (s.read ea)), readModifyWrite_eq hea⟩

/-- A change of a register by one operation writes that register, Z and N, and no more (R118 to R121). -/
theorem bump_answers (r : Reg) (f : Byte → Byte) (s : State) :
    ∃ p', SetsFlags s.p p' (resultFlags (f (s.getReg r))) ∧
      bump r f s = .next { s.setReg r (f (s.getReg r)) with p := p' } := by
  refine ⟨putNZ s.p (f (s.getReg r)), setsFlags_putNZ s.p (f (s.getReg r)), ?_⟩
  rw [bump, State.setNZ, State.setReg_p]
  rfl

/-- Settles O31: the table lists the rows of each mnemonic, and all of them dispatch to `readModifyWrite` of its
operation. -/
theorem incAndDecMemory : Obligations.IncAndDecMemory := by
  intro i s
  refine ⟨fun h => ⟨Instr.mem_rows h, ?_, ?INC⟩, fun h => ⟨Instr.mem_rows h, ?_, ?DEC⟩⟩
  case INC =>
    rw [exec_of_mnemonic h]
    exact readModifyWrite_answers (· + 1) (Instr.hasMemoryMode_of_rows h (by decide)) s
  case DEC =>
    rw [exec_of_mnemonic h]
    exact readModifyWrite_answers (· - 1) (Instr.hasMemoryMode_of_rows h (by decide)) s
  all_goals exact Instr.unimplementedUnderV7_of_rows h (by decide)

/-- Settles O32: the four dispatch to `bump` of their register and operation, and SOURCE_V7 executes none of their
opcodes. -/
theorem registerIncrements : Obligations.RegisterIncrements := by
  intro s
  refine ⟨⟨rfl, ?_, ?INX⟩, ⟨rfl, ?_, ?INY⟩, ⟨rfl, ?_, ?DEX⟩, ⟨rfl, ?_, ?DEY⟩⟩
  case INX => exact bump_answers .x (· + 1) s
  case INY => exact bump_answers .y (· + 1) s
  case DEX => exact bump_answers .x (· - 1) s
  case DEY => exact bump_answers .y (· - 1) s
  all_goals exact unimplementedUnderV7_of_not_mem (by decide)

end Sys2Proof.Machine
end

section
/-! Shifts and rotates (45_shift.md R122 to R126): the four operations as arithmetic on numbers, and what the shared
meaning answers in Accumulator form and in a memory form, for every operation. -/

namespace Sys2Proof

open Machine

/-- Accumulator is a form of one operand. -/
theorem Operand.eq_accumulator_of_form {o : Operand} (h : o.form = .accumulator) : o = .accumulator := by
  cases o with
  | accumulator => rfl
  | _ => exact Form.noConfusion h

namespace Machine

/-! ## The four operations as arithmetic -/

theorem getLsbD_zero_eq_decide (b : Byte) : b.getLsbD 0 = decide (b.toNat % 2 = 1) := Nat.testBit_zero b.toNat

theorem shiftLeft_one_byte (v : Byte) : v <<< 1 = BitVec.ofNat 8 (2 * v.toNat) := by
  apply BitVec.eq_of_toNat_eq
  rw [BitVec.toNat_shiftLeft, Nat.shiftLeft_eq, BitVec.toNat_ofNat, Nat.mul_comm]

theorem shiftRight_one_byte (v : Byte) : v >>> 1 = BitVec.ofNat 8 (v.toNat / 2) := by
  have hv := v.isLt
  apply BitVec.eq_of_toNat_eq
  rw [BitVec.toNat_ushiftRight, Nat.shiftRight_eq_div_pow, BitVec.toNat_ofNat]
  omega

/-- ROL's carry enters at bit 0, which the shift leaves empty: it adds 1. -/
theorem rol_result (v : Byte) (c : Bool) :
    (v <<< 1) ||| (if c then 0x01 else 0x00) = BitVec.ofNat 8 (2 * v.toNat + c.toNat) := by
  have hc : (if c then 0x01 else 0x00 : Byte) = BitVec.ofNat 8 c.toNat := by cases c <;> rfl
  have hor := Nat.two_pow_add_eq_or_of_lt (i := 1) c.toNat_lt v.toNat
  rw [hc, shiftLeft_one_byte, ← BitVec.ofNat_or]
  exact congrArg (BitVec.ofNat 8) hor.symm

/-- ROR's carry enters at bit 7, which the shift leaves empty: it adds 128. -/
theorem ror_result (v : Byte) (c : Bool) :
    (v >>> 1) ||| (if c then 0x80 else 0x00) = BitVec.ofNat 8 (v.toNat / 2 + 128 * c.toNat) := by
  have hc : (if c then 0x80 else 0x00 : Byte) = BitVec.ofNat 8 (128 * c.toNat) := by cases c <;> rfl
  have hlow : v.toNat / 2 < 2 ^ 7 := by have := v.isLt; omega
  have hor := Nat.two_pow_add_eq_or_of_lt hlow c.toNat
  rw [hc, shiftRight_one_byte, ← BitVec.ofNat_or, Nat.or_comm, Nat.add_comm]
  exact congrArg (BitVec.ofNat 8) hor.symm

theorem shiftAsl_eq (v : Byte) (c : Bool) : shiftAsl v c = ⟨BitVec.ofNat 8 (2 * v.toNat), decide (128 ≤ v.toNat)⟩ := by
  rw [shiftAsl, shiftLeft_one_byte, getLsbD_seven_eq_decide]

theorem shiftLsr_eq (v : Byte) (c : Bool) : shiftLsr v c = ⟨BitVec.ofNat 8 (v.toNat / 2), decide (v.toNat % 2 = 1)⟩ := by
  rw [shiftLsr, shiftRight_one_byte, getLsbD_zero_eq_decide]

theorem shiftRol_eq (v : Byte) (c : Bool) :
    shiftRol v c = ⟨BitVec.ofNat 8 (2 * v.toNat + c.toNat), decide (128 ≤ v.toNat)⟩ := by
  rw [shiftRol, rol_result, getLsbD_seven_eq_decide]

theorem shiftRor_eq (v : Byte) (c : Bool) :
    shiftRor v c = ⟨BitVec.ofNat 8 (v.toNat / 2 + 128 * c.toNat), decide (v.toNat % 2 = 1)⟩ := by
  rw [shiftRor, ror_result, getLsbD_zero_eq_decide]

/-! ## The shared meaning -/

/-- A shift gives C the bit shifted out, Z and N from the result, and keeps the other flags (R122). -/
theorem setsFlags_putShifted (p : Byte) (t : Shifted) :
    SetsFlags p (putShifted p t) ((.C, t.out) :: resultFlags t.result) := by
  intro f
  rw [putShifted, setsFlags_putNZ _ _ f, getFlag_putFlag]
  cases f <;> rfl

section

variable {f : Byte → Bool → Shifted} {result : Byte → Byte} {out : Byte → Bool} {i : Instr} {s : State}

/-- In Accumulator form a shift writes A, C, Z and N, and no more (R122). -/
theorem shift_acc_answers (hf : ∀ v, f v (s.flag .C) = ⟨result v, out v⟩) (hi : i.form = .accumulator) :
    ∃ p', SetsFlags s.p p' ((.C, out s.a) :: resultFlags (result s.a)) ∧
      shift f i s = .next { s with a := result s.a, p := p' } := by
  refine ⟨putShifted s.p ⟨result s.a, out s.a⟩, setsFlags_putShifted s.p _, ?_⟩
  rw [shift_acc (Operand.eq_accumulator_of_form hi), hf]
  rfl

/-- In a memory form a shift writes the cell at EA, C, Z and N, and no more (R122). -/
theorem shift_mem_answers (hf : ∀ v, f v (s.flag .C) = ⟨result v, out v⟩) (hi : i.HasMemoryMode) :
    ∃ ea p', i.operand.address s = some ea ∧
      SetsFlags s.p p' ((.C, out (s.read ea)) :: resultFlags (result (s.read ea))) ∧
      shift f i s = .next { s.write ea (result (s.read ea)) with p := p' } := by
  obtain ⟨ea, hea⟩ := hi.exists_address s
  refine ⟨ea, putShifted s.p ⟨result (s.read ea), out (s.read ea)⟩, hea, setsFlags_putShifted s.p _, ?_⟩
  rw [shift_mem hea, hf]
  rfl

end

/-! ## The 20 rows -/

/-- The four mnemonics of 45_shift.md. -/
def shiftMnemonics : List Mnemonic := [.ASL, .LSR, .ROL, .ROR]

/-- Their rows, each with its mnemonic. -/
def shiftRows : List (Mnemonic × Form × Byte) := shiftMnemonics.flatMap fun m => m.rows.map fun row => (m, row)

theorem mem_shiftRows {m : Mnemonic} (hm : m ∈ shiftMnemonics) {row : Form × Byte} (hrow : row ∈ m.rows) :
    (m, row) ∈ shiftRows := List.mem_flatMap.mpr ⟨m, hm, List.mem_map_of_mem hrow⟩

/-- SOURCE_V7 executes none of the rows, and the only form without an effective address is Accumulator (R122). -/
theorem rows_shift : ∀ m ∈ shiftMnemonics, ∀ row ∈ m.rows,
    row.2 ∉ v7Opcodes ∧ (row.1 ≠ .accumulator → row.1.mode ≠ .noneAddressing) := by decide

/-- Settles O33: the rows of each mnemonic dispatch to `shift` of its operation, which is the arithmetic of the
statement; in a memory form there is an effective address. -/
theorem shiftsAndRotates : Obligations.ShiftsAndRotates := by
  intro i s
  generalize hmn : i.mnemonic = m
  intro result out hm
  have hrow := Instr.mem_rows hmn
  obtain ⟨hv7, hmode⟩ := rows_shift m hm _ hrow
  obtain ⟨f, hexec, hf⟩ : ∃ f, exec i s = shift f i s ∧ ∀ v, f v (s.flag .C) = ⟨result v, out v⟩ := by
    rw [exec_of_mnemonic hmn]
    cases m with
    | ASL => exact ⟨shiftAsl, rfl, (shiftAsl_eq · _)⟩
    | LSR => exact ⟨shiftLsr, rfl, (shiftLsr_eq · _)⟩
    | ROL => exact ⟨shiftRol, rfl, (shiftRol_eq · _)⟩
    | ROR => exact ⟨shiftRor, rfl, (shiftRor_eq · _)⟩
    | _ => exact absurd hm (by decide)
  rw [hexec]
  exact ⟨mem_shiftRows hm hrow, unimplementedUnderV7_of_not_mem hv7, shift_acc_answers hf,
    fun h => shift_mem_answers hf (hmode h)⟩

end Machine

end Sys2Proof
end

section
/-! Flag instructions (46_flag_ops.md R127 to R133): what the write of one flag answers, for every flag and value. -/

namespace Sys2Proof.Machine

/-- A write of one flag keeps the other seven. -/
theorem setsFlags_putFlag (p : Byte) (f : Flag) (b : Bool) : SetsFlags p (putFlag p f b) [(f, b)] := by
  intro g
  rw [getFlag_putFlag]
  by_cases h : g = f
  · simp [h]
  · simp [h, List.lookup, beq_false_of_ne h]

/-- The meaning of a flag instruction writes its flag, and no more (R127 to R133). -/
theorem setFlag_answers (f : Flag) (b : Bool) (s : State) :
    ∃ p', SetsFlags s.p p' [(f, b)] ∧ (.next (s.setFlag f b) : Result) = .next { s with p := p' } :=
  ⟨putFlag s.p f b, setsFlags_putFlag s.p f b, rfl⟩

/-- Settles O34: each of the seven dispatches to the write of its flag, and SOURCE_V7 executes none of their opcodes. -/
theorem flagInstructions : Obligations.FlagInstructions := by
  intro s
  refine ⟨⟨rfl, ?_, ?CLC⟩, ⟨rfl, ?_, ?SEC⟩, ⟨rfl, ?_, ?CLI⟩, ⟨rfl, ?_, ?SEI⟩, ⟨rfl, ?_, ?CLD⟩, ⟨rfl, ?_, ?SED⟩,
    ⟨rfl, ?_, ?CLV⟩⟩
  case CLC => exact setFlag_answers .C false s
  case SEC => exact setFlag_answers .C true s
  case CLI => exact setFlag_answers .I false s
  case SEI => exact setFlag_answers .I true s
  case CLD => exact setFlag_answers .D false s
  case SED => exact setFlag_answers .D true s
  case CLV => exact setFlag_answers .V false s
  all_goals exact unimplementedUnderV7_of_not_mem (by decide)

end Sys2Proof.Machine
end

section
/-! Stack instructions (47_stack.md R134 to R137): the flags of P as it goes to the stack and comes from it, and what each
of the four answers. -/

namespace Sys2Proof.Machine

/-- The pushed copy of P has both break bits set and the other six flags of P (R135). -/
theorem setsFlags_statusToStack (p : Byte) : SetsFlags p (statusToStack p) [(.BA, true), (.BB, true)] := by
  intro f
  rw [getFlag_statusToStack]
  cases f <;> rfl

/-- P from a pulled byte has BA = 0, BB = 1 and the other six flags of the byte (R137). -/
theorem setsFlags_statusFromStack (b : Byte) : SetsFlags b (statusFromStack b) [(.BA, false), (.BB, true)] := by
  intro f
  rw [getFlag_statusFromStack]
  cases f <;> rfl

/-- Settles O35: both dispatch to a push, of A and of P with its break bits set; SOURCE_V7 executes neither opcode. -/
theorem pushInstructions : Obligations.PushInstructions := by
  intro s
  refine ⟨⟨rfl, ?_, ?PHA⟩, ⟨rfl, ?_, ?PHP⟩⟩
  case PHA => exact exec_of_mnemonic rfl s
  case PHP => exact ⟨statusToStack s.p, setsFlags_statusToStack s.p, exec_of_mnemonic rfl s⟩
  all_goals exact unimplementedUnderV7_of_not_mem (by decide)

/-- Settles O36: both dispatch to a pull, PLA into A with SetNZ and PLP into P with its break bits fixed; SOURCE_V7
executes neither opcode. -/
theorem pullInstructions : Obligations.PullInstructions := by
  intro s
  refine ⟨⟨rfl, ?_, ?PLA⟩, ⟨rfl, ?_, ?PLP⟩⟩
  case PLA => exact ⟨putNZ s.p s.pulled, setsFlags_putNZ s.p s.pulled, exec_of_mnemonic rfl s⟩
  case PLP => exact ⟨statusFromStack s.pulled, setsFlags_statusFromStack s.pulled, exec_of_mnemonic rfl s⟩
  all_goals exact unimplementedUnderV7_of_not_mem (by decide)

end Sys2Proof.Machine
end

section
/-! Control transfer, halt and NOP (48_control.md R138 to R154): where each control transfer leaves PC, as arithmetic on
addresses, and the steps of the two instructions that transfer nothing. -/

namespace Sys2Proof

open Machine

/-- SOURCE_V7 executes no control transfer (R139 to R152). -/
theorem opcodeTable_controlTransfer :
    ∀ r ∈ opcodeTable, r.mnemonic.isControlTransfer = true → r.opcode ∉ v7Opcodes :=
  forall_opcodeTable (by decide)

theorem Instr.unimplementedUnderV7_of_controlTransfer {i : Instr} (h : i.isControlTransfer = true) :
    UnimplementedUnderV7 i := by
  obtain ⟨r, hmem, -, hop, hm, -⟩ := i.exists_lookup
  refine unimplementedUnderV7_of_not_mem (hop ▸ opcodeTable_controlTransfer r hmem ?_)
  rw [hm]
  exact h

theorem word_and (h l h' l' : Byte) : word h l &&& word h' l' = word (h &&& h') (l &&& l') := BitVec.and_append

theorem word_or (h l h' l' : Byte) : word h l ||| word h' l' = word (h ||| h') (l ||| l') := BitVec.or_append

namespace Machine

/-! ## Jumps -/

/-- The address that NMOS_PAGE_WRAP reads the high byte from keeps the page of the pointer and advances the offset in it
(R140). -/
theorem pageWrap_eq_word (ptr : Addr) :
    (ptr &&& 0xFF00) ||| ((ptr + 1) &&& 0x00FF) = word (hiByte ptr) (loByte (ptr + 1)) := by
  have hkeep (b : Byte) : b &&& 0xFF = b := BitVec.and_allOnes
  have hclear (b : Byte) : b &&& 0x00 = 0x00 := BitVec.and_zero
  have hright (b : Byte) : b ||| 0x00 = b := BitVec.or_zero
  have hleft (b : Byte) : 0x00 ||| b = b := BitVec.zero_or
  have hpage : ptr &&& 0xFF00 = word (hiByte ptr) 0x00 := by
    have h := word_and (hiByte ptr) (loByte ptr) 0xFF 0x00
    rwa [word_hiByte_loByte, hkeep, hclear] at h
  have hoffset : (ptr + 1) &&& 0x00FF = word 0x00 (loByte (ptr + 1)) := by
    have h := word_and (hiByte (ptr + 1)) (loByte (ptr + 1)) 0x00 0xFF
    rwa [word_hiByte_loByte, hkeep, hclear] at h
  rw [hpage, hoffset, word_or, hright, hleft]

theorem pageWrap_toNat (ptr : Addr) :
    ((ptr &&& 0xFF00) ||| ((ptr + 1) &&& 0x00FF)).toNat = (ptr.toNat + 1) % 256 + 256 * (ptr.toNat / 256) := by
  have hmod : (ptr.toNat + 1) % 65536 % 256 = (ptr.toNat + 1) % 256 := Nat.mod_mod_of_dvd _ (by decide)
  rw [pageWrap_eq_word, word_toNat, loByte_toNat, hiByte_toNat, BitVec.toNat_add]
  exact congrArg (· + 256 * (ptr.toNat / 256)) hmod

/-- Within a page the address after the pointer is the next one. -/
theorem pageWrap_of_ne {ptr : Addr} (h : ptr.toNat % 256 ≠ 255) :
    (ptr &&& 0xFF00) ||| ((ptr + 1) &&& 0x00FF) = ptr + 1 := by
  apply BitVec.eq_of_toNat_eq
  rw [pageWrap_toNat]
  bv_omega

/-- At the end of a page the address after the pointer is the start of the same page. -/
theorem pageWrap_of_eq {ptr : Addr} (h : ptr.toNat % 256 = 255) :
    (ptr &&& 0xFF00) ||| ((ptr + 1) &&& 0x00FF) = ptr - 255 := by
  apply BitVec.eq_of_toNat_eq
  rw [pageWrap_toNat]
  bv_omega

/-- The high byte of an indirect target comes from the next address, unless the page wrap applies. -/
theorem State.indirectTarget_next {s : State} {ptr : Addr}
    (h : s.cfg.jmpIndWrap = .linear ∨ ptr.toNat % 256 ≠ 255) :
    s.indirectTarget ptr = s.read (ptr + 1) ++ s.read ptr := by
  unfold indirectTarget
  cases hw : s.cfg.jmpIndWrap with
  | linear => rfl
  | nmosPageWrap =>
    have hne : ptr.toNat % 256 ≠ 255 := h.resolve_left (by simp [hw])
    simp only [pageWrap_of_ne hne, word]

/-- Under NMOS_PAGE_WRAP the high byte of an indirect target at the end of a page comes from the start of the page. -/
theorem State.indirectTarget_pageStart {s : State} {ptr : Addr} (hw : s.cfg.jmpIndWrap = .nmosPageWrap)
    (h : ptr.toNat % 256 = 255) : s.indirectTarget ptr = s.read (ptr - 255) ++ s.read ptr := by
  simp only [indirectTarget, hw, pageWrap_of_eq h, word]

theorem exec_jmpInd (ptr : Addr) (s : State) :
    exec (.jmpInd ptr) s = .next { s with pc := s.indirectTarget ptr } := rfl

/-- Settles O37: the indirect target's two cases are the two of the address after the pointer. -/
theorem jumps : Obligations.Jumps := by
  intro s addr
  refine ⟨rfl, rfl, Instr.unimplementedUnderV7_of_controlTransfer rfl, Instr.unimplementedUnderV7_of_controlTransfer rfl,
    rfl, fun h => ?next, fun hw h => ?pageStart⟩
  case next => rw [exec_jmpInd, State.indirectTarget_next h]
  case pageStart => rw [exec_jmpInd, State.indirectTarget_pageStart hw h]

/-! ## Subroutines and the return from an interrupt -/

namespace State

variable (s : State)

theorem popped_popped : s.popped.popped = { s with sp := s.sp + 2 } := by
  have hsp : s.sp + 1 + 1 = s.sp + 2 := BitVec.add_assoc s.sp 1 1
  rw [← hsp]
  rfl

theorem popped_popped_popped : s.popped.popped.popped = { s with sp := s.sp + 3 } := by
  have hsp : s.sp + 1 + 2 = s.sp + 3 := BitVec.add_assoc s.sp 1 2
  rw [popped_popped, ← hsp]
  rfl

/-- The second byte pulled comes from two above SP. -/
theorem pulled_popped : s.popped.pulled = s.read (stackAddr (s.sp + 2)) := by
  rw [pulled, ← popped_sp, popped_popped, read_popped]

/-- The third byte pulled comes from three above SP. -/
theorem pulled_popped_popped : s.popped.popped.pulled = s.read (stackAddr (s.sp + 3)) := by
  rw [pulled, ← popped_sp, popped_popped_popped, read_popped, read_popped]

/-- Two pushes store at SP and at the byte address below it, which stays on the stack page. -/
theorem push_push (b1 b2 : Byte) :
    (s.push b1).push b2 = { (s.write (stackAddr s.sp) b1).write (stackAddr (s.sp - 1)) b2 with sp := s.sp - 2 } := by
  have hsp : s.sp - 1 - 1 = s.sp - 2 := by bv_omega
  rw [← hsp]
  rfl

end State

/-- Settles O38: JSR pushes the two bytes of the address of its last byte, and RTS pulls two bytes. -/
theorem subroutineCallAndReturn : Obligations.SubroutineCallAndReturn := by
  intro s addr
  refine ⟨rfl, rfl, Instr.unimplementedUnderV7_of_controlTransfer rfl, Instr.unimplementedUnderV7_of_controlTransfer rfl,
    ⟨hiByte (s.pc + 1), loByte (s.pc + 1), word_hiByte_loByte (s.pc + 1), ?JSR⟩, ?RTS⟩
  case JSR =>
    change execJsr addr s = _
    rw [execJsr, State.push_push]
    rfl
  case RTS =>
    change execRts s = _
    rw [execRts, State.popped_popped, State.pulled_popped]
    rfl

/-- Settles O40: RTI pulls three bytes, the first of which gives P with its break bits fixed. -/
theorem returnFromInterrupt : Obligations.ReturnFromInterrupt := by
  intro s
  refine ⟨rfl, Instr.unimplementedUnderV7_of_controlTransfer rfl, statusFromStack s.pulled,
    setsFlags_statusFromStack s.pulled, ?_⟩
  change execRti s = _
  rw [execRti, State.popped_popped_popped, State.pulled_popped_popped, State.pulled_popped]
  rfl

/-! ## Branches -/

/-- The target of a branch is a sum of signed numbers, reduced to 16 bits (R144). -/
theorem State.branchTarget_eq (s : State) (rel : Byte) :
    s.branchTarget rel = BitVec.ofInt 16 ((s.pc + 1).toInt + rel.toInt) := by
  rw [branchTarget, ← sext16_toInt, BitVec.ofInt_add, BitVec.ofInt_toInt, BitVec.ofInt_toInt]

/-- A branch on one flag writes PC, and no more (R144). -/
theorem branch_answers (f : Flag) (b : Bool) (rel : Byte) (s : State) :
    branch (s.flag f == b) rel s = .next { s with
      pc := if s.flag f = b then BitVec.ofInt 16 ((s.pc + 1).toInt + rel.toInt) else s.pc + 1 } := by
  simp only [branch, beq_iff_eq, State.branchTarget_eq, State.setPc]

/-- Settles O41: each of the eight dispatches to the branch on its flag and value. -/
theorem branches : Obligations.Branches := by
  intro s rel target next
  refine ⟨⟨rfl, ?_, ?BPL⟩, ⟨rfl, ?_, ?BMI⟩, ⟨rfl, ?_, ?BVC⟩, ⟨rfl, ?_, ?BVS⟩, ⟨rfl, ?_, ?BCC⟩, ⟨rfl, ?_, ?BCS⟩,
    ⟨rfl, ?_, ?BNE⟩, ⟨rfl, ?_, ?BEQ⟩⟩
  case BPL => exact branch_answers .N false rel s
  case BMI => exact branch_answers .N true rel s
  case BVC => exact branch_answers .V false rel s
  case BVS => exact branch_answers .V true rel s
  case BCC => exact branch_answers .C false rel s
  case BCS => exact branch_answers .C true rel s
  case BNE => exact branch_answers .Z false rel s
  case BEQ => exact branch_answers .Z true rel s
  all_goals exact Instr.unimplementedUnderV7_of_controlTransfer rfl

/-! ## BRK and NOP -/

theorem State.fetchInstr_brk {s : State} (h : s.read s.pc = 0x00) : s.fetchInstr = some .brk := by
  rw [fetchInstr, h]
  rfl

theorem State.fetchInstr_nop {s : State} (h : s.read s.pc = 0xEA) : s.fetchInstr = some .nop := by
  rw [fetchInstr, h]
  rfl

/-- BRK executes under both profiles (R153). -/
theorem brk_executesUnder (p : ExecProfile) : Instr.brk.executesUnder p = true := by cases p <;> rfl

/-- Settles O42: BRK executes under every configuration, and a halted machine's PC is not advanced past the opcode. -/
theorem brkHalts : Obligations.BrkHalts := by
  refine fun s => ⟨rfl, rfl, rfl, fun hm hop => ?_⟩
  rw [step_of_exec_next hm (State.fetchInstr_brk hop) (brk_executesUnder _) rfl, finishStep_stay (.inl (by simp))]
  rfl

/-- Settles O43: NOP has no operand, so the end of its step adds nothing to the fetch's advance of PC. -/
theorem nopDoesNothing : Obligations.NopDoesNothing := by
  refine fun s => ⟨rfl, rfl, unimplementedUnderV7_of_not_mem (by decide), rfl, fun hm hfull hop => ?_⟩
  have hf := State.fetchInstr_nop hop
  have he : Instr.nop.executesUnder s.cfg.execProfile = true := hfull ▸ executesUnder_full hf
  rw [step_of_exec_next hm hf he rfl, finishStep_advance (s := s.fetched) hm rfl, State.fetched_pc, add_one_add_width]
  rfl

end Machine

end Sys2Proof
end

section
/-! Decoding and encoding as inverses (30_encoding.md R55 to R61): an instruction is its opcode byte and the bytes of its
operand, and the row of an opcode byte says how many bytes it reads and what it builds of them. -/

namespace Sys2Proof

/-! ## Rows -/

/-- A row builds an instruction of its own mnemonic, whatever the operand bytes. -/
theorem build_mnemonic {r : Row} (h : r ∈ opcodeTable) (b1 b2 : Byte) : (r.build b1 b2).mnemonic = r.mnemonic := by
  have rowByRow : opcodeMap.map (List.map fun r => (r.build b1 b2).mnemonic) = opcodeMap.map (List.map (·.mnemonic)) := rfl
  exact forall_opcodeTable (fun rows hrows => List.map_inj_left.mp (List.map_inj_left.mp rowByRow rows hrows)) r h

/-- Bytes past the row's length do not matter (R55). -/
theorem build_eq_build_take {r : Row} (h : r ∈ opcodeTable) (b1 b2 : Byte) :
    r.build b1 b2
      = r.build (([b1, b2].take (r.length - 1)).getD 0 0) (([b1, b2].take (r.length - 1)).getD 1 0) := by
  have rowByRow : opcodeMap.map (List.map fun r => r.build b1 b2) = opcodeMap.map (List.map fun r =>
      r.build (([b1, b2].take (r.length - 1)).getD 0 0) (([b1, b2].take (r.length - 1)).getD 1 0)) := rfl
  exact forall_opcodeTable (fun rows hrows => List.map_inj_left.mp (List.map_inj_left.mp rowByRow rows hrows)) r h

/-- A row's length is the opcode byte and the operand bytes of its form (R57, R58). -/
theorem opcodeTable_width : ∀ r ∈ opcodeTable, r.length = 1 + r.form.width := forall_opcodeTable (by decide)

/-! ## Operands and their bytes -/

/-- Assembling the bytes of an operand gives it back (R59). -/
theorem Operand.assemble_bytes (o : Operand) : o.form.assemble (o.bytes.getD 0 0) (o.bytes.getD 1 0) = o := by
  cases o with
  | absolute w => exact congrArg Operand.absolute (word_hiByte_loByte w)
  | absoluteX w => exact congrArg Operand.absoluteX (word_hiByte_loByte w)
  | absoluteY w => exact congrArg Operand.absoluteY (word_hiByte_loByte w)
  | absoluteTarget w => exact congrArg Operand.absoluteTarget (word_hiByte_loByte w)
  | indirectTarget w => exact congrArg Operand.indirectTarget (word_hiByte_loByte w)
  | _ => rfl

/-- The bytes of an assembled operand are as many of the given ones as the form is wide (R59). -/
theorem Form.bytes_assemble (f : Form) (b1 b2 : Byte) : (f.assemble b1 b2).bytes = [b1, b2].take f.width := by
  cases f with
  | absolute | absoluteX | absoluteY | absoluteTarget | indirectTarget =>
    exact congr (congrArg (fun l h => [l, h]) (loByte_word b2 b1)) (hiByte_word b2 b1)
  | _ => rfl

theorem Operand.length_bytes (o : Operand) : o.bytes.length = o.form.width := by cases o <;> rfl

/-- An instruction with a two-byte operand is built of the two bytes of the word. -/
theorem decodeBytes_word {op : Byte} {mk : Addr → Instr} (h : ∀ b1 b2, decodeBytes op b1 b2 = some (mk (word b2 b1)))
    (w : Addr) : decodeBytes op (loByte w) (hiByte w) = some (mk w) := by
  rw [h, word_hiByte_loByte]

/-- The row of an instruction's opcode byte builds the instruction from the bytes of its operand. -/
theorem decodeBytes_bytes (i : Instr) :
    decodeBytes i.opcode (i.operand.bytes.getD 0 0) (i.operand.bytes.getD 1 0) = some i := by
  cases i with
  | ldaAbs w | ldaAbsX w | ldaAbsY w | ldxAbs w | ldxAbsY w | ldyAbs w | ldyAbsX w | staAbs w | staAbsX w | staAbsY w
  | stxAbs w | styAbs w | adcAbs w | adcAbsX w | adcAbsY w | sbcAbs w | sbcAbsX w | sbcAbsY w | andAbs w | andAbsX w
  | andAbsY w | oraAbs w | oraAbsX w | oraAbsY w | eorAbs w | eorAbsX w | eorAbsY w | cmpAbs w | cmpAbsX w | cmpAbsY w
  | cpxAbs w | cpyAbs w | bitAbs w | incAbs w | incAbsX w | decAbs w | decAbsX w | aslAbs w | aslAbsX w | lsrAbs w
  | lsrAbsX w | rolAbs w | rolAbsX w | rorAbs w | rorAbsX w | jmpAbs w | jmpInd w | jsr w =>
    dsimp only [Instr.opcode]
    exact decodeBytes_word (fun _ _ => rfl) w
  | _ =>
    dsimp only [Instr.opcode]
    rfl

/-! ## Lists of bytes -/

theorem take_getD_length {bytes : List Byte} (h : bytes.length ≤ 2) :
    [bytes.getD 0 0, bytes.getD 1 0].take bytes.length = bytes := by
  match bytes, h with
  | [], _ | [_], _ | [_, _], _ => rfl

/-- Decoding reads as many bytes as the row is long, and no more. -/
theorem decode_append {op : Byte} {r : Row} {bytes : List Byte} (hr : lookup op = some r)
    (hlen : r.length = 1 + bytes.length) (rest : List Byte) :
    decode (op :: bytes ++ rest) = .ok (r.build (bytes.getD 0 0) (bytes.getD 1 0)) rest := by
  have hrow := opcodeTable_length r (mem_opcodeTable_of_lookup hr).1
  match bytes, hlen with
  | [], hlen | [_], hlen | [_, _], hlen =>
    simp only [decode, hr, List.cons_append, List.nil_append, hlen]
    rfl
  | _ :: _ :: _ :: _, hlen =>
    simp only [List.length_cons] at hlen
    omega

/-- What decoding to an instruction says about the bytes: the first has a row, and the row builds the instruction of as
many bytes after it as it is long. -/
theorem decode_eq_ok {bytes rest : List Byte} {i : Instr} (h : decode bytes = .ok i rest) :
    ∃ op r operand, bytes = op :: operand ++ rest ∧ lookup op = some r ∧ r.length = 1 + operand.length ∧
      i = r.build (operand.getD 0 0) (operand.getD 1 0) := by
  unfold decode at h
  split at h
  · cases h
  rename_i op tl
  split at h
  · cases h
  rename_i r hr
  split at h <;> cases h
  case h_1 hl => exact ⟨op, r, [], rfl, hr, hl, rfl⟩
  case h_2 b1 hl => exact ⟨op, r, [b1], rfl, hr, hl, rfl⟩
  case h_3 b1 b2 hl => exact ⟨op, r, [b1, b2], rfl, hr, hl, rfl⟩

/-- Settles O1: the row of the opcode byte takes exactly the operand's bytes and builds the instruction of them. -/
theorem decodeEncodeRoundTrip : Obligations.DecodeEncodeRoundTrip := by
  intro i rest
  obtain ⟨r, hmem, hr, -, -, hform⟩ := i.exists_lookup
  have hlen : r.length = 1 + i.operand.bytes.length := by
    rw [opcodeTable_width r hmem, hform, i.operand.length_bytes]
    rfl
  have hbuild := decodeBytes_bytes i
  simp only [decodeBytes, hr, Option.map_some, Option.some.injEq] at hbuild
  rw [encode, decode_append hr hlen, hbuild]

/-- Settles O2: the instruction that a row builds has the row's opcode byte, and its operand the bytes it was built of. -/
theorem decodedBytesAreTheEncoding : Obligations.DecodedBytesAreTheEncoding := by
  intro bytes i rest h
  obtain ⟨op, r, operand, rfl, hr, hlen, hi⟩ := decode_eq_ok h
  obtain ⟨hmem, hop⟩ := mem_opcodeTable_of_lookup hr
  have hopcode : i.opcode = op := by rw [hi, build_opcode hmem, hop]
  have hwidth : r.form.width = operand.length := by
    have := opcodeTable_width r hmem
    omega
  have hbytes : i.operand.bytes = operand := by
    have hshort : operand.length ≤ 2 := by
      have := opcodeTable_length r hmem
      omega
    rw [hi, build_operand hmem, Form.bytes_assemble, hwidth, take_getD_length hshort]
  obtain ⟨-, hcount, -⟩ := i.tableRow
  exact ⟨by rw [encode, hopcode, hbytes], hcount⟩
/-- The controller's decoder reads the instruction that the bytes at PC decode to (R55, R56). -/
theorem decodeBytes_of_decode {op b1 b2 : Byte} {i : Instr} {rest : List Byte}
    (h : decode [op, b1, b2] = .ok i rest) : decodeBytes op b1 b2 = some i := by
  obtain ⟨_, r, operand, hbytes, hr, hlen, rfl⟩ := decode_eq_ok h
  obtain ⟨rfl, htail⟩ := List.cons.inj hbytes
  have hoperand : [b1, b2].take (r.length - 1) = operand := by
    rw [htail, hlen, Nat.add_sub_cancel_left]
    exact List.take_left
  rw [decodeBytes, hr, Option.map_some, build_eq_build_take (mem_opcodeTable_of_lookup hr).1, hoperand]

/-- Settles O4: each word decodes by evaluation of the table at its first byte. -/
theorem writtenOutWordsDecode : Obligations.WrittenOutWordsDecode := fun _ _ _ _ =>
  ⟨rfl, rfl, rfl, rfl, rfl, rfl, rfl, rfl, rfl, rfl, rfl, rfl, rfl, rfl, rfl⟩

/-! ## Spellings -/

/-- Every row is of a form that the rule of its mnemonic lists (R66, R89 to R154). -/
theorem opcodeTable_forms : ∀ r ∈ opcodeTable, r.form ∈ r.mnemonic.forms := forall_opcodeTable (by decide)

/-- Every form that the rule of a mnemonic lists has a row. -/
theorem Mnemonic.forms_rows (m : Mnemonic) : ∀ f ∈ m.forms, f ∈ m.rows.map Prod.fst := by cases m <;> decide

/-- A mnemonic has one opcode byte for each of its forms (R61). -/
theorem Mnemonic.rows_inj (m : Mnemonic) : ∀ row ∈ m.rows, ∀ row' ∈ m.rows, row.1 = row'.1 → row.2 = row'.2 := by
  cases m <;> decide

/-- A spelling is well formed exactly when the opcode table has a row of its mnemonic and form. -/
theorem Spelling.wellFormed_iff (sp : Spelling) :
    sp.wellFormed = true ↔ ∃ r ∈ opcodeTable, r.mnemonic = sp.mnemonic ∧ r.form = sp.operand.form := by
  rw [wellFormed, List.contains_iff_mem]
  constructor
  · intro h
    obtain ⟨row, hrow, hform⟩ := List.mem_map.mp (sp.mnemonic.forms_rows _ h)
    obtain ⟨r, hr, rfl⟩ := List.mem_map.mp hrow
    obtain ⟨hmem, hm⟩ := List.mem_filter.mp hr
    exact ⟨r, hmem, of_decide_eq_true hm, hform⟩
  · rintro ⟨r, hmem, hm, hform⟩
    exact hform ▸ hm ▸ opcodeTable_forms r hmem

theorem assemble_isSome_iff (sp : Spelling) : (∃ i, assemble sp = some i) ↔ sp.wellFormed = true := by
  rw [← Option.isSome_iff_exists, assemble, Option.isSome_map, List.find?_isSome, sp.wellFormed_iff]
  simp only [Bool.and_eq_true, decide_eq_true_eq]

/-- The assembled instruction has the mnemonic and the operand that were written. -/
theorem spelling_of_assemble {sp : Spelling} {i : Instr} (h : assemble sp = some i) : i.spelling = sp := by
  obtain ⟨r, hr, rfl⟩ := Option.map_eq_some_iff.mp h
  have hmem := List.mem_of_find?_eq_some hr
  have hrow := List.find?_some hr
  obtain ⟨hm, hform⟩ : r.mnemonic = sp.mnemonic ∧ r.form = sp.operand.form := by simpa using hrow
  have hmn := (build_mnemonic hmem (sp.operand.bytes.getD 0 0) (sp.operand.bytes.getD 1 0)).trans hm
  have hop := build_operand hmem (sp.operand.bytes.getD 0 0) (sp.operand.bytes.getD 1 0)
  rw [hform, sp.operand.assemble_bytes] at hop
  exact congr (congrArg Spelling.mk hmn) hop

/-- Two instructions that are spelled alike are encoded alike, and so are one instruction. -/
theorem Instr.spelling_injective : Function.Injective Instr.spelling := by
  intro i j h
  have hm : i.mnemonic = j.mnemonic := congrArg Spelling.mnemonic h
  have ho : i.operand = j.operand := congrArg Spelling.operand h
  have hop : i.opcode = j.opcode :=
    Mnemonic.rows_inj _ _ (mem_rows hm) _ (mem_rows rfl) (congrArg Operand.form ho)
  have hdecode := decodeBytes_bytes i
  rw [hop, ho, decodeBytes_bytes j] at hdecode
  exact (Option.some.inj hdecode).symm

/-- Settles O5: the table has a row for each listed form and no other, and the spelling of an instruction assembles to
some instruction of that spelling. -/
theorem wellFormedSpellingsAssemble : Obligations.WellFormedSpellingsAssemble := by
  refine ⟨assemble_isSome_iff, fun _ _ => spelling_of_assemble, fun i => ?_⟩
  obtain ⟨-, -, hwf⟩ := i.tableRow
  obtain ⟨j, hj⟩ := (assemble_isSome_iff i.spelling).mpr hwf
  rw [hj, Instr.spelling_injective (spelling_of_assemble hj)]

end Sys2Proof
end

section
/-! What an instruction can do to the state, said once: the kinds of effect there are, and for each mnemonic the register
and the flags it computes (10_state.md R15 to R18, R21). -/

namespace Sys2Proof

open Machine

/-- The flags a mnemonic computes: the "written by" column of the table of P (R21), read by mnemonic. PLP and RTI, which
load P whole from the stack, compute none. -/
def Mnemonic.flagsComputed : Mnemonic → List Flag
  | .LDA | .LDX | .LDY | .TAX | .TAY | .TXA | .TYA | .TSX | .AND | .ORA | .EOR | .INC | .DEC | .INX | .INY | .DEX | .DEY
  | .PLA => [.Z, .N]
  | .ADC | .SBC => [.C, .V, .Z, .N]
  | .CMP | .CPX | .CPY | .ASL | .LSR | .ROL | .ROR => [.C, .Z, .N]
  | .BIT => [.Z, .N, .V]
  | .CLC | .SEC => [.C]
  | .CLI | .SEI => [.I]
  | .CLD | .SED => [.D]
  | .CLV => [.V]
  | .STA | .STX | .STY | .TXS | .PHA | .PHP | .PLP | .JMP | .JSR | .RTS | .RTI | .BPL | .BMI | .BVC | .BVS | .BCC | .BCS
  | .BNE | .BEQ | .BRK | .NOP => []

/-- The register that takes the result of a mnemonic that works on registers and does not touch the stack
(R15 to R18). -/
def Mnemonic.resultReg (m : Mnemonic) (f : Form) : Option Reg :=
  match m with
  | .LDA | .TXA | .TYA | .ADC | .SBC | .AND | .ORA | .EOR => some .a
  | .LDX | .TAX | .TSX | .INX | .DEX => some .x
  | .LDY | .TAY | .INY | .DEY => some .y
  | .TXS => some .sp
  | .ASL | .LSR | .ROL | .ROR => if f = .accumulator then some .a else none
  | _ => none

/-- `p'` differs from `p` at most in the flags that the mnemonic computes. -/
def Mnemonic.KeepsFlags (m : Mnemonic) (p p' : Byte) : Prop := ∀ f, f ∉ m.flagsComputed → getFlag p' f = getFlag p f

theorem Mnemonic.KeepsFlags.refl (m : Mnemonic) (p : Byte) : m.KeepsFlags p p := fun _ _ => rfl

/-- Setting the flags that a mnemonic computes keeps the others. -/
theorem SetsFlags.keepsFlags {p p' : Byte} {values : List (Flag × Bool)} {m : Mnemonic} (h : SetsFlags p p' values)
    (hm : m.flagsComputed = values.map Prod.fst) : m.KeepsFlags p p' := by
  intro f hf
  have hnone : values.lookup f = none := by
    refine List.lookup_eq_none_iff.mpr fun v hv => bne_iff_ne.mpr ?_
    rintro rfl
    exact hf (hm ▸ List.mem_map_of_mem hv)
  rw [h f, hnone, Option.getD_none]

namespace Machine

/-- What an instruction leaves of the state it executes in. -/
inductive Effect (i : Instr) (s : State) : State → Prop where
  /-- A result goes to a register: loads, transfers, arithmetic, logic, increments, shifts of A. -/
  | register {r : Reg} {v p' : Byte} (hr : i.mnemonic.resultReg i.form = some r)
      (hp : i.mnemonic.KeepsFlags s.p p') : Effect i s ((s.setReg r v).setP p')
  /-- Only flags change, or nothing: compares, BIT, the flag instructions, NOP. -/
  | flags {p' : Byte} (hp : i.mnemonic.KeepsFlags s.p p') (hst : i.storedBytes s = []) : Effect i s (s.setP p')
  /-- One cell is stored to: stores and read-modify-writes. -/
  | cell {ea : Addr} {v p' : Byte} (hst : i.storedBytes s = [(ea, v)]) (hp : i.mnemonic.KeepsFlags s.p p') :
      Effect i s ((s.write ea v).setP p')
  /-- PHA and PHP. -/
  | push {v : Byte} (hm : i.mnemonic = .PHA ∨ i.mnemonic = .PHP) (hst : i.storedBytes s = [(stackAddr s.sp, v)]) :
      Effect i s (s.push v)
  /-- PLA. -/
  | pullA {v p' : Byte} (hm : i.mnemonic = .PLA) (hp : i.mnemonic.KeepsFlags s.p p') :
      Effect i s ((s.popped.setReg .a v).setP p')
  /-- PLP. -/
  | pullP {b : Byte} (hm : i.mnemonic = .PLP) : Effect i s (s.popped.setP (statusFromStack b))
  /-- JMP and the branches. -/
  | jump {v : Addr} (hst : i.storedBytes s = []) : Effect i s (s.setPc v)
  /-- JSR. -/
  | call {v : Addr} {hi lo : Byte} (hm : i.mnemonic = .JSR)
      (hst : i.storedBytes s = [(stackAddr s.sp, hi), (stackAddr (s.sp - 1), lo)]) :
      Effect i s (((s.push hi).push lo).setPc v)
  /-- RTS. -/
  | callReturn {v : Addr} (hm : i.mnemonic = .RTS) : Effect i s (s.popped.popped.setPc v)
  /-- RTI. -/
  | interruptReturn {b : Byte} {v : Addr} (hm : i.mnemonic = .RTI) :
      Effect i s ((s.popped.popped.popped.setP (statusFromStack b)).setPc v)
  /-- BRK. -/
  | halt (hm : i.mnemonic = .BRK) : Effect i s s.halt
  /-- ADC or SBC, refused by the decimal check. -/
  | refused (hm : i.mnemonic = .ADC ∨ i.mnemonic = .SBC) (hd : s.decimalRefused = true) :
      Effect i s (raise .unimplementedOpcode i.opcode s.fetchPc s)

/-! ## The effect of each family -/

namespace Effect

section

variable {i : Instr} {s t : State} {m : Mnemonic} {r : Reg}

theorem of_load (hm : i.mnemonic = m) (hr : m.resultReg i.form = some r) (hw : m.flagsComputed = [.Z, .N])
    (hi : i.HasMemoryMode) (h : load r i s = .next t) : Effect i s t := by
  subst hm
  obtain ⟨v, p', -, hp, he⟩ := load_answers r hi s
  cases he.symm.trans h
  exact register hr (hp.keepsFlags hw)

theorem of_transfer {src : Reg} (hm : i.mnemonic = m) (hr : m.resultReg i.form = some r)
    (hw : m.flagsComputed = [.Z, .N]) (h : transfer src r s = .next t) : Effect i s t := by
  subst hm
  obtain ⟨p', hp, he⟩ := transfer_answers src r s
  cases he.symm.trans h
  exact register hr (hp.keepsFlags hw)

theorem of_bump {f : Byte → Byte} (hm : i.mnemonic = m) (hr : m.resultReg i.form = some r)
    (hw : m.flagsComputed = [.Z, .N]) (h : bump r f s = .next t) : Effect i s t := by
  subst hm
  obtain ⟨p', hp, he⟩ := bump_answers r f s
  cases he.symm.trans h
  exact register hr (hp.keepsFlags hw)

theorem of_logic {f : Byte → Byte → Byte} (hm : i.mnemonic = m) (hr : m.resultReg i.form = some .a)
    (hw : m.flagsComputed = [.Z, .N]) (hi : i.HasMemoryMode) (h : logic f i s = .next t) : Effect i s t := by
  subst hm
  obtain ⟨v, p', -, hp, he⟩ := logic_answers f hi s
  cases he.symm.trans h
  exact register (r := .a) hr (hp.keepsFlags hw)

theorem of_compareReg (hm : i.mnemonic = m) (hw : m.flagsComputed = [.C, .Z, .N]) (hst : i.storedBytes s = [])
    (hi : i.HasMemoryMode) (h : compareReg r i s = .next t) : Effect i s t := by
  subst hm
  obtain ⟨v, p', -, hp, he⟩ := compareReg_answers r hi s
  cases he.symm.trans h
  exact flags (hp.keepsFlags hw) hst

theorem of_bitTest (hm : i.mnemonic = .BIT) (hi : i.HasMemoryMode) (h : bitTest i s = .next t) : Effect i s t := by
  obtain ⟨v, hv⟩ := hi.exists_value s
  cases (bitTest_eq hv).symm.trans h
  exact flags ((setsFlags_putBitTest s.p s.a v).keepsFlags (congrArg Mnemonic.flagsComputed hm))
    (by simp only [Instr.storedBytes, hm])

theorem of_setFlag {f : Flag} {b : Bool} (hm : i.mnemonic = m) (hw : m.flagsComputed = [f])
    (hst : i.storedBytes s = []) : Effect i s (s.setFlag f b) := by
  subst hm
  exact flags ((setsFlags_putFlag s.p f b).keepsFlags hw) hst

/-- What ADC and SBC do, given what the adder returned. -/
theorem of_sum {sum : Sum} (hm : i.mnemonic = .ADC ∨ i.mnemonic = .SBC) :
    Effect i s (s.orDecimalFault i (s.setSum sum)) := by
  have hr : i.mnemonic.resultReg i.form = some .a := by rcases hm with hm | hm <;> rw [hm] <;> rfl
  have hw : i.mnemonic.flagsComputed = [.C, .V, .Z, .N] := by rcases hm with hm | hm <;> rw [hm] <;> rfl
  unfold State.orDecimalFault
  split
  next hd => exact refused hm hd
  next => exact register (r := .a) hr ((setsFlags_putSum s.p sum).keepsFlags hw)

theorem of_adc (hm : i.mnemonic = .ADC) (hi : i.HasMemoryMode) (h : adc i s = .next t) : Effect i s t := by
  obtain ⟨v, hv⟩ := hi.exists_value s
  cases (withValue_some _ hv).symm.trans h
  exact of_sum (.inl hm)

theorem of_sbc (hm : i.mnemonic = .SBC) (hi : i.HasMemoryMode) (h : sbc i s = .next t) : Effect i s t := by
  obtain ⟨v, hv⟩ := hi.exists_value s
  cases (withValue_some _ hv).symm.trans h
  exact of_sum (.inr hm)

/-- A store, whose cell and byte are those that its rule names. -/
theorem of_store (hi : i.HasMemoryMode)
    (hst : ∀ ea, i.operand.address s = some ea → i.storedBytes s = [(ea, s.getReg r)])
    (h : store r i s = .next t) : Effect i s t := by
  obtain ⟨ea, hea, he⟩ := store_answers r hi s
  cases he.symm.trans h
  exact cell (hst ea hea) (.refl _ _)

theorem of_readModifyWrite {f : Byte → Byte} (hm : i.mnemonic = m) (hw : m.flagsComputed = [.Z, .N])
    (hi : i.HasMemoryMode) (hst : ∀ ea, i.operand.address s = some ea → i.storedBytes s = [(ea, f (s.read ea))])
    (h : readModifyWrite f i s = .next t) : Effect i s t := by
  subst hm
  obtain ⟨ea, p', hea, hp, he⟩ := readModifyWrite_answers f hi s
  cases he.symm.trans h
  exact cell (hst ea hea) (hp.keepsFlags hw)

theorem of_shift {f : Byte → Bool → Shifted} (hm : i.mnemonic = m) (hr : m.resultReg .accumulator = some .a)
    (hw : m.flagsComputed = [.C, .Z, .N]) (hi : i.form ≠ .accumulator → i.HasMemoryMode)
    (hst : ∀ ea, i.operand.address s = some ea → i.storedBytes s = [(ea, (f (s.read ea) (s.flag .C)).result)])
    (h : shift f i s = .next t) : Effect i s t := by
  subst hm
  by_cases ha : i.form = .accumulator
  · cases (shift_acc (Operand.eq_accumulator_of_form ha)).symm.trans h
    exact register (r := .a) (ha ▸ hr) ((setsFlags_putShifted _ _).keepsFlags hw)
  · obtain ⟨ea, hea⟩ := (hi ha).exists_address s
    cases (shift_mem hea).symm.trans h
    exact cell (hst ea hea) ((setsFlags_putShifted _ _).keepsFlags hw)

end

end Effect

theorem effect_of_controlTransfer {i : Instr} {s t : State} (hi : i.isControlTransfer = true)
    (h : exec i s = .next t) : Effect i s t := by
  cases i with
  | jmpAbs _ | jmpInd _ | bpl _ | bmi _ | bvc _ | bvs _ | bcc _ | bcs _ | bne _ | beq _ =>
    cases h
    exact .jump rfl
  | jsr _ =>
    cases h
    exact .call rfl rfl
  | rts =>
    cases h
    exact .callReturn rfl
  | rti =>
    cases h
    exact .interruptReturn rfl
  | _ => exact Bool.noConfusion hi

/-- Every next state that `exec` answers is one of these. -/
theorem effect_of_exec {i : Instr} {s t : State} (h : exec i s = .next t) : Effect i s t := by
  obtain ⟨m, hm⟩ : ∃ m, i.mnemonic = m := ⟨_, rfl⟩
  rw [exec_of_mnemonic hm] at h
  cases m with
  | LDA | LDX | LDY => exact .of_load hm rfl rfl (Instr.hasMemoryMode_of_rows hm (by decide)) h
  | TAX | TAY | TXA | TYA | TSX => exact .of_transfer hm rfl rfl h
  | INX | INY | DEX | DEY =>
    dsimp only [Mnemonic.meaning] at h
    exact .of_bump hm rfl rfl h
  | AND | ORA | EOR => exact .of_logic hm rfl rfl (Instr.hasMemoryMode_of_rows hm (by decide)) h
  | CMP | CPX | CPY =>
    exact .of_compareReg hm rfl (by simp only [Instr.storedBytes, hm]) (Instr.hasMemoryMode_of_rows hm (by decide)) h
  | BIT => exact .of_bitTest hm (Instr.hasMemoryMode_of_rows hm (by decide)) h
  | ADC => exact .of_adc hm (Instr.hasMemoryMode_of_rows hm (by decide)) h
  | SBC => exact .of_sbc hm (Instr.hasMemoryMode_of_rows hm (by decide)) h
  | STA | STX | STY =>
    refine .of_store (Instr.hasMemoryMode_of_rows hm (by decide)) (fun ea hea => ?_) h
    simp only [Instr.storedBytes, hm, hea]
    rfl
  | INC | DEC =>
    dsimp only [Mnemonic.meaning] at h
    refine .of_readModifyWrite hm rfl (Instr.hasMemoryMode_of_rows hm (by decide)) (fun ea hea => ?_) h
    simp only [Instr.storedBytes, hm, hea]
    rfl
  | ASL | LSR | ROL | ROR =>
    have hrow := (rows_shift _ (by decide) _ (Instr.mem_rows hm)).2
    refine .of_shift hm rfl rfl hrow (fun ea hea => ?_) h
    simp only [Instr.storedBytes, hm, hea, shiftAsl_eq, shiftLsr_eq, shiftRol_eq, shiftRor_eq]
    rfl
  | CLC | SEC | CLI | SEI | CLD | SED | CLV =>
    cases h
    exact .of_setFlag hm rfl (by simp only [Instr.storedBytes, hm])
  | TXS =>
    cases h
    exact .register (r := .sp) (v := s.x) (p' := s.p) (by rw [hm]; rfl) (.refl _ _)
  | PHA =>
    cases h
    exact .push (.inl hm) (by simp only [Instr.storedBytes, hm])
  | PHP =>
    cases h
    exact .push (.inr hm) (by simp only [Instr.storedBytes, hm, statusToStack])
  | PLA =>
    cases h
    exact .pullA hm ((setsFlags_putNZ _ _).keepsFlags (congrArg Mnemonic.flagsComputed hm))
  | PLP =>
    cases h
    exact .pullP hm
  | BRK =>
    cases h
    exact .halt hm
  | NOP =>
    cases h
    exact .flags (p' := s.p) (.refl _ _) (by simp only [Instr.storedBytes, hm])
  | JMP | JSR | RTS | RTI | BPL | BMI | BVC | BVS | BCC | BCS | BNE | BEQ =>
    exact effect_of_controlTransfer (by rw [Instr.isControlTransfer, hm]; rfl) h

end Machine

end Sys2Proof
end

section
/-! Frames (10_state.md R15 to R18, R21; 20_memory.md R53; 48_control.md R138): what every effect leaves
unchanged, by kind of state. -/

namespace Sys2Proof

open Machine

/-! ## Registers -/

/-- The mnemonics whose result goes to A, with the forms of those that have another destination too (R15). -/
theorem Mnemonic.of_resultReg_a {m : Mnemonic} {f : Form} (h : m.resultReg f = some .a) :
    m ∈ ([.LDA, .TXA, .TYA, .PLA, .ADC, .SBC, .AND, .ORA, .EOR] : List Mnemonic) ∨
      (m ∈ shiftMnemonics ∧ f = .accumulator) := by
  cases m with
  | LDA | TXA | TYA | ADC | SBC | AND | ORA | EOR => exact .inl (by decide)
  | ASL | LSR | ROL | ROR => exact .inr ⟨by decide, by simpa [resultReg] using h⟩
  | _ => nomatch h

theorem Mnemonic.of_resultReg_x {m : Mnemonic} {f : Form} (h : m.resultReg f = some .x) :
    m ∈ ([.LDX, .TAX, .TSX, .INX, .DEX] : List Mnemonic) := by
  cases m with
  | LDX | TAX | TSX | INX | DEX => decide
  | ASL | LSR | ROL | ROR => simp [resultReg] at h
  | _ => nomatch h

theorem Mnemonic.of_resultReg_y {m : Mnemonic} {f : Form} (h : m.resultReg f = some .y) :
    m ∈ ([.LDY, .TAY, .INY, .DEY] : List Mnemonic) := by
  cases m with
  | LDY | TAY | INY | DEY => decide
  | ASL | LSR | ROL | ROR => simp [resultReg] at h
  | _ => nomatch h

theorem Mnemonic.of_resultReg_sp {m : Mnemonic} {f : Form} (h : m.resultReg f = some .sp) : m = .TXS := by
  cases m with
  | TXS => rfl
  | ASL | LSR | ROL | ROR => simp [resultReg] at h
  | _ => nomatch h

namespace Machine.Effect

variable {i : Instr} {s t : State}

theorem a_eq (h : Effect i s t) (hr : i.mnemonic.resultReg i.form ≠ some .a) (hm : i.mnemonic ≠ .PLA) : t.a = s.a := by
  cases h with
  | @register r _ _ hres => rw [State.setP_a, State.setReg_a, if_neg fun hra : r = .a => hr (hra ▸ hres)]
  | pullA hpla => exact absurd hpla hm
  | _ => simp

theorem x_eq (h : Effect i s t) (hr : i.mnemonic.resultReg i.form ≠ some .x) : t.x = s.x := by
  cases h with
  | @register r _ _ hres => rw [State.setP_x, State.setReg_x, if_neg fun hrx : r = .x => hr (hrx ▸ hres)]
  | _ => simp

theorem y_eq (h : Effect i s t) (hr : i.mnemonic.resultReg i.form ≠ some .y) : t.y = s.y := by
  cases h with
  | @register r _ _ hres => rw [State.setP_y, State.setReg_y, if_neg fun hry : r = .y => hr (hry ▸ hres)]
  | _ => simp

/-- SP moves by TXS, the pushes and pulls, and the calls and returns (R18). -/
theorem sp_eq (h : Effect i s t) (hm : i.mnemonic ∉ ([.TXS, .PHA, .PHP, .PLA, .PLP, .JSR, .RTS, .RTI] : List Mnemonic)) :
    t.sp = s.sp := by
  cases h with
  | @register r _ _ hres =>
    have hne : r ≠ .sp := by
      rintro rfl
      exact hm (by rw [Mnemonic.of_resultReg_sp hres]; decide)
    rw [State.setP_sp, State.setReg_sp, if_neg hne]
  | push hpush => rcases hpush with hpush | hpush <;> exact absurd (by rw [hpush]; decide) hm
  | pullA hpull | pullP hpull | call hpull | callReturn hpull | interruptReturn hpull =>
    exact absurd (by rw [hpull]; decide) hm
  | _ => simp

/-- No effect writes the configuration. -/
theorem cfg_eq (h : Effect i s t) : t.cfg = s.cfg := by
  cases h with
  | register => rw [State.setP_cfg, State.setReg_cfg]
  | _ => simp

/-! ## Flags -/

/-- A flag that the mnemonic does not compute is left alone, unless P is loaded whole. -/
theorem flag_eq (h : Effect i s t) {f : Flag} (hf : f ∉ i.mnemonic.flagsComputed)
    (hm : i.mnemonic ∉ ([.PLP, .RTI] : List Mnemonic)) : t.flag f = s.flag f := by
  cases h with
  | register _ hp | flags hp | cell _ hp | pullA _ hp => exact hp f hf
  | pullP hpull | interruptReturn hpull => exact absurd (by rw [hpull]; decide) hm
  | _ => rfl

/-! ## Mode and fault record -/

/-- An effect keeps the mode and the fault record, or is the halt of BRK, or the fault of the decimal check. -/
theorem mode_cases (h : Effect i s t) :
    (t.mode = s.mode ∧ t.faultRecord = s.faultRecord) ∨ (i.mnemonic = .BRK ∧ t = s.halt) ∨
    ((i.mnemonic = .ADC ∨ i.mnemonic = .SBC) ∧ s.decimalRefused = true ∧
      t = raise .unimplementedOpcode i.opcode s.fetchPc s) := by
  cases h with
  | register =>
    refine .inl ⟨?_, ?_⟩
    · rw [State.setP_mode, State.setReg_mode]
    · rw [State.setP_faultRecord, State.setReg_faultRecord]
  | halt hm => exact .inr (.inl ⟨hm, rfl⟩)
  | refused hm hd => exact .inr (.inr ⟨hm, hd, rfl⟩)
  | _ => exact .inl (by simp)

end Machine.Effect

/-! ## Memory -/

/-- The cells of `storedBytes` are the addresses of `storedAddrs`. -/
theorem Instr.map_fst_storedBytes (i : Instr) (s : State) : (i.storedBytes s).map Prod.fst = i.storedAddrs s := by
  unfold storedBytes storedAddrs
  generalize i.mnemonic = m, i.operand.address s = ea
  cases m with
  | STA | STX | STY | INC | DEC | ASL | LSR | ROL | ROR => cases ea <;> rfl
  | _ => rfl

@[simp] theorem Machine.State.read_halt (s : State) (a : Addr) : s.halt.read a = s.read a := rfl

@[simp] theorem Machine.read_raise (k : FaultKind) (op : Byte) (pc : Addr) (s : State) (a : Addr) :
    (raise k op pc s).read a = s.read a := rfl

/-- A byte outside the stored cells reads as before (R53). -/
theorem Machine.Effect.read_eq {i : Instr} {s t : State} (h : Effect i s t) {a : Addr} (ha : a ∉ i.storedAddrs s) :
    t.read a = s.read a := by
  rw [← i.map_fst_storedBytes] at ha
  cases h with
  | register => rw [State.read_setP, State.read_setReg]
  | cell hst =>
    have hne : a ≠ _ := fun h => ha (by rw [hst, h]; exact List.mem_singleton_self _)
    rw [State.read_setP, State.read_write_of_ne _ hne]
  | push _ hst =>
    have hne : stackAddr s.sp ≠ a := fun h => ha (by rw [hst, ← h]; exact List.mem_singleton_self _)
    rw [State.read_push, if_neg hne]
  | call _ hst =>
    rw [hst] at ha
    obtain ⟨hlow, hhigh⟩ : a ≠ stackAddr s.sp ∧ a ≠ stackAddr (s.sp - 1) := by simpa using ha
    rw [State.read_setPc, State.read_push, State.push_sp, if_neg hhigh.symm, State.read_push, if_neg hlow.symm]
  | _ => simp

/-- Stores, read-modify-writes and memory shifts store at the effective address. -/
theorem Instr.storedAddrs_of_memory {i : Instr}
    (hm : i.mnemonic ∈ ([.STA, .STX, .STY, .INC, .DEC, .ASL, .LSR, .ROL, .ROR] : List Mnemonic)) (s : State) :
    i.storedAddrs s = (i.operand.address s).toList := by
  unfold storedAddrs
  generalize i.mnemonic = m at hm ⊢
  cases m with
  | STA | STX | STY | INC | DEC | ASL | LSR | ROL | ROR => rfl
  | _ => exact absurd hm (by decide)

theorem Instr.storedAddrs_of_push {i : Instr} (hm : i.mnemonic ∈ ([.PHA, .PHP] : List Mnemonic)) (s : State) :
    i.storedAddrs s = [stackAddr s.sp] := by
  unfold storedAddrs
  generalize i.mnemonic = m at hm ⊢
  cases m with
  | PHA | PHP => rfl
  | _ => exact absurd hm (by decide)

theorem Instr.storedAddrs_of_call {i : Instr} (hm : i.mnemonic = .JSR) (s : State) :
    i.storedAddrs s = [stackAddr s.sp, stackAddr (s.sp - 1)] := by
  rw [storedAddrs, hm]

/-- The other mnemonics store nothing. -/
theorem Instr.storedAddrs_of_other {i : Instr}
    (hm : i.mnemonic ∉ ([.STA, .STX, .STY, .INC, .DEC, .ASL, .LSR, .ROL, .ROR, .PHA, .PHP, .JSR] : List Mnemonic))
    (s : State) : i.storedAddrs s = [] := by
  unfold storedAddrs
  generalize i.mnemonic = m at hm ⊢
  cases m with
  | STA | STX | STY | INC | DEC | ASL | LSR | ROL | ROR | PHA | PHP | JSR => exact absurd (by decide) hm
  | _ => rfl

/-- A shift of A stores nothing. -/
theorem Instr.storedAddrs_of_accumulator {i : Instr} (hi : i.form = .accumulator) (s : State) : i.storedAddrs s = [] := by
  cases i with
  | aslAcc | lsrAcc | rolAcc | rorAcc => rfl
  | _ => nomatch hi

/-! ## The frames of the rules -/

/-- The mnemonics that write a flag: the "written by" column of the table of P (R21). -/
def Machine.Flag.writers : Flag → List Mnemonic
  | .C => [.ADC, .SBC, .CMP, .CPX, .CPY, .ASL, .LSR, .ROL, .ROR, .CLC, .SEC, .PLP, .RTI]
  | .Z | .N => [.LDA, .LDX, .LDY, .PLA, .TAX, .TAY, .TXA, .TYA, .TSX, .ADC, .SBC, .AND, .ORA, .EOR,
      .INC, .DEC, .INX, .INY, .DEX, .DEY, .ASL, .LSR, .ROL, .ROR, .CMP, .CPX, .CPY, .BIT, .PLP, .RTI]
  | .I => [.CLI, .SEI, .PLP, .RTI]
  | .D => [.CLD, .SED, .PLP, .RTI]
  | .V => [.ADC, .SBC, .BIT, .CLV, .PLP, .RTI]
  | .BA | .BB => [.PLP, .RTI]

/-- The flags that a mnemonic computes have it among their writers. -/
theorem Mnemonic.mem_writers (m : Mnemonic) : ∀ f ∈ m.flagsComputed, m ∈ f.writers := by cases m <;> decide

/-- PLP and RTI write every flag. -/
theorem Machine.Flag.loads_subset_writers (f : Flag) : [.PLP, .RTI] ⊆ f.writers := by cases f <;> decide

/-- R138: ControlTransfer is the twelve mnemonics. -/
theorem Mnemonic.isControlTransfer_iff (m : Mnemonic) : m.isControlTransfer = true ↔
    m ∈ ([.JMP, .JSR, .RTS, .RTI, .BPL, .BMI, .BVC, .BVS, .BCC, .BCS, .BNE, .BEQ] : List Mnemonic) := by
  cases m <;> decide

/-- Settles O44: an effect writes the register that takes the mnemonic's result, PLA writes A too, and the stack moves
SP. -/
theorem registersChangeOnlyByTheirWriters : Obligations.RegistersChangeOnlyByTheirWriters := by
  intro i s t h
  have he := effect_of_exec h
  refine ⟨fun hm hacc => ?a, fun hm => ?x, fun hm => ?y, he.sp_eq, he.cfg_eq⟩
  case a =>
    refine he.a_eq (fun hr => ?_) (fun hpla => hm (by rw [hpla]; decide))
    exact (Mnemonic.of_resultReg_a hr).elim hm hacc
  case x => exact he.x_eq fun hr => hm (Mnemonic.of_resultReg_x hr)
  case y => exact he.y_eq fun hr => hm (Mnemonic.of_resultReg_y hr)

/-- Settles O45: an effect keeps the flags that its mnemonic does not compute, and PLP and RTI are writers of all. -/
theorem flagsChangeOnlyByTheirWriters : Obligations.FlagsChangeOnlyByTheirWriters := by
  intro i s t h nz
  have hkept (f : Flag) (hm : i.mnemonic ∉ f.writers) : t.flag f = s.flag f :=
    (effect_of_exec h).flag_eq (fun hf => hm (i.mnemonic.mem_writers f hf))
      (fun hload => hm (f.loads_subset_writers hload))
  exact ⟨hkept .C, fun hm => ⟨hkept .Z hm, hkept .N hm⟩, hkept .I, hkept .D, hkept .V,
    fun hm => ⟨hkept .BA hm, hkept .BB hm⟩⟩

/-- Settles O46: outside the stored addresses an effect changes no byte, and each kind of mnemonic stores where it says. -/
theorem memoryChangesOnlyWhereStored : Obligations.MemoryChangesOnlyWhereStored := by
  intro i s t h
  have hkept (a : Addr) : a ∉ i.storedAddrs s → t.read a = s.read a := (effect_of_exec h).read_eq
  refine ⟨fun ea hm hea a hne => hkept a ?memory, fun hm a hne => hkept a ?push, fun hm a hlow hhigh => hkept a ?call,
    fun hm a => hkept a ?none, hkept⟩
  case memory => simpa [Instr.storedAddrs_of_memory hm, hea] using hne
  case push => simpa [Instr.storedAddrs_of_push hm] using hne
  case call => simpa [Instr.storedAddrs_of_call hm] using ⟨hlow, hhigh⟩
  case none => simp [hm.elim (Instr.storedAddrs_of_other · s) (Instr.storedAddrs_of_accumulator · s)]

/-- Settles O47: PC is left to the controller but by a control transfer, and the mode changes by a halt or a refusal. -/
theorem modeRecordAndPcFrame : Obligations.ModeRecordAndPcFrame := by
  intro i s t h
  refine ⟨i.mnemonic.isControlTransfer_iff, fun hc => ?pc, fun hm => ?halt, fun hm hd => ?other⟩
  case pc =>
    obtain ⟨t', ht', hpc⟩ := exec_answersAt hc s
    cases ht'.symm.trans h
    exact hpc
  case halt =>
    cases (exec_of_mnemonic hm s).symm.trans h
    exact ⟨rfl, rfl⟩
  case other =>
    obtain hkept | ⟨hbrk, -⟩ | ⟨hadd, href, -⟩ := (effect_of_exec h).mode_cases
    · exact hkept
    · exact absurd hbrk hm
    · exact absurd ⟨hadd, s.decimalRefused_iff.mp href⟩ hd

/-- Settles O22: `exec` answers a next state, and of the effects only the refusal of the decimal check makes the mode
Faulted. -/
theorem execAlwaysAnswersNext : Obligations.ExecAlwaysAnswersNext := by
  intro i s
  obtain ⟨t, ht, -⟩ := exec_next i s
  have he := effect_of_exec ht
  refine ⟨t, ht, he.cfg_eq, fun hfaulted => ?_⟩
  obtain ⟨hmode, -⟩ | ⟨-, rfl⟩ | ⟨hadd, href, -⟩ := he.mode_cases
  · exact .inl (hmode ▸ hfaulted)
  · exact Mode.noConfusion hfaulted
  · exact .inr ⟨hadd, s.decimalRefused_iff.mp href⟩

end Sys2Proof
end

section
/-! What a step can do (40_controller_resolver.md R68 to R74, 60_exceptions.md R155 to R161), and what every step keeps. -/

namespace Sys2Proof

open Machine

namespace Machine

/-- The end of a step leaves everything but PC as the instruction left it (R72). -/
@[simp] theorem finishStep_mode (i : Instr) (t : State) : (finishStep i t).mode = t.mode := by
  rw [finishStep_eq_with_pc]

@[simp] theorem finishStep_faultRecord (i : Instr) (t : State) : (finishStep i t).faultRecord = t.faultRecord := by
  rw [finishStep_eq_with_pc]

@[simp] theorem finishStep_mem (i : Instr) (t : State) : (finishStep i t).mem = t.mem := by
  rw [finishStep_eq_with_pc]

@[simp] theorem finishStep_p (i : Instr) (t : State) : (finishStep i t).p = t.p := by
  rw [finishStep_eq_with_pc]

/-- A Running machine has a step. -/
theorem exists_step {s : State} (hm : s.mode = .running) : ∃ t, step s = .next t := by
  obtain ⟨-, h⟩ | ⟨_, -, -, h⟩ | ⟨i, hf, he, -⟩ := step_running hm
  · exact ⟨_, h⟩
  · exact ⟨_, h⟩
  · obtain ⟨t, ht, -⟩ := exec_next i s.fetched
    exact ⟨_, step_of_exec_next hm hf he ht⟩

/-- What a step that has a next state did: it took a fault, or an instruction executed and completed. -/
inductive StepEffect (s : State) : State → Prop where
  /-- The opcode byte has no row (R63). -/
  | unrecognized (hf : s.fetchInstr = none) : StepEffect s (faultedState .unrecognizedOpcode s)
  /-- The row does not execute under the profile (R65), or the decimal check refuses (43_alu.md R114). -/
  | unimplemented {i : Instr} (hf : s.fetchInstr = some i)
      (hno : i.executesUnder s.cfg.execProfile = false ∨ s.decimalRefused = true) :
      StepEffect s (faultedState .unimplementedOpcode s)
  /-- The instruction halted or completed. -/
  | executed {i : Instr} {t : State} (hf : s.fetchInstr = some i) (he : i.executesUnder s.cfg.execProfile = true)
      (ht : exec i s.fetched = .next t)
      (hmode : t.mode = .running ∧ t.faultRecord = s.faultRecord ∨ i.mnemonic = .BRK ∧ t = s.fetched.halt) :
      StepEffect s (finishStep i t)

/-- Every step is of the Running mode and is one of these. -/
theorem stepEffect_of_step {s t : State} (h : step s = .next t) : s.mode = .running ∧ StepEffect s t := by
  by_cases hm : s.mode = .running
  case neg => simp [step_notRunning hm] at h
  refine ⟨hm, ?_⟩
  obtain ⟨hf, hs⟩ | ⟨i, hf, he, hs⟩ | ⟨i, hf, he, -⟩ := step_running hm
  · cases hs.symm.trans h
    exact .unrecognized hf
  · cases hs.symm.trans h
    exact .unimplemented hf (.inl he)
  · obtain ⟨u, hu, -⟩ := exec_next i s.fetched
    cases (step_of_exec_next hm hf he hu).symm.trans h
    obtain ⟨hmode, hrecord⟩ | ⟨hbrk, hhalt⟩ | ⟨-, href, rfl⟩ := (effect_of_exec hu).mode_cases
    · exact .executed hf he hu (.inl ⟨hmode.trans hm, hrecord⟩)
    · exact .executed hf he hu (.inr ⟨hbrk, hhalt⟩)
    · have hop := (State.lookup_of_fetchInstr hf).1
      rw [finishStep_stay (.inl (by simp)), State.fetched_fetchPc, ← hop, ← faultedState_eq]
      exact .unimplemented hf (.inr href)

/-- A step that ends Faulted took a fault; its kind is one of the two that R157 and R158 leave. -/
theorem faulted_step {s t : State} (h : step s = .next t) (hfaulted : t.mode = .faulted) :
    (s.fetchInstr = none ∧ t = faultedState .unrecognizedOpcode s) ∨
    (t = faultedState .unimplementedOpcode s ∧ ∃ i, s.fetchInstr = some i ∧
      (i.executesUnder s.cfg.execProfile = false ∨ s.decimalRefused = true)) := by
  cases (stepEffect_of_step h).2 with
  | unrecognized hf => exact .inl ⟨hf, rfl⟩
  | unimplemented hf hno => exact .inr ⟨rfl, _, hf, hno⟩
  | executed _ _ _ hmode =>
    rw [finishStep_mode] at hfaulted
    obtain ⟨hrun, -⟩ | ⟨-, rfl⟩ := hmode
    · exact absurd (hrun.symm.trans hfaulted) (by decide)
    · exact Mode.noConfusion hfaulted

/-- Settles O19: every way of faulting takes the fault at the state after the opcode fetch. -/
theorem faultsArePrecise : Obligations.FaultsArePrecise := by
  intro s t h hfaulted
  obtain ⟨-, rfl⟩ | ⟨rfl, -⟩ := faulted_step h hfaulted
  · exact ⟨.unrecognizedOpcode, rfl⟩
  · exact ⟨.unimplementedOpcode, rfl⟩

/-- Settles O21: FULL executes every fetched instruction, and under BINARY the decimal check refuses none. -/
theorem onlySpecifiedFaultKindsArise : Obligations.OnlySpecifiedFaultKindsArise := by
  intro s t r h hfaulted hr
  obtain ⟨hf, rfl⟩ | ⟨rfl, i, hf, hno⟩ := faulted_step h hfaulted
  · cases hr
    exact ⟨nofun, fun _ _ => ⟨rfl, hf⟩⟩
  · cases hr
    refine ⟨nofun, fun hfull hbin => ?_⟩
    have he : i.executesUnder s.cfg.execProfile = true := hfull ▸ executesUnder_full hf
    have hd : s.decimalRefused = false := State.decimalRefused_eq_false fun ⟨href, _⟩ => by simp [hbin] at href
    simp [he, hd] at hno

/-- A machine halts exactly at the opcode byte of BRK (48_control.md R153). -/
theorem halted_iff {s t : State} (h : step s = .next t) : t.mode = .halted ↔ s.read s.pc = 0x00 := by
  obtain ⟨hm, he⟩ := stepEffect_of_step h
  constructor
  · intro hhalted
    cases he with
    | unrecognized | unimplemented => exact Mode.noConfusion hhalted
    | @executed i _ hf _ _ hmode =>
      rw [finishStep_mode] at hhalted
      obtain ⟨hrun, -⟩ | ⟨hbrk, -⟩ := hmode
      · exact absurd (hrun.symm.trans hhalted) (by decide)
      · have hrow : (i.form, i.opcode) ∈ [(Form.implied, (0x00 : Byte))] := Instr.mem_rows hbrk
        rw [(State.lookup_of_fetchInstr hf).1]
        exact congrArg Prod.snd (List.mem_singleton.mp hrow)
  · intro hop
    obtain ⟨-, -, -, hbrk⟩ := brkHalts s
    cases (hbrk hm hop).symm.trans h
    rfl

theorem step_mode_ne_idle {s t : State} (h : step s = .next t) : t.mode ≠ .idle := by
  cases (stepEffect_of_step h).2 with
  | unrecognized | unimplemented => exact nofun
  | executed _ _ _ hmode =>
    rw [finishStep_mode]
    obtain ⟨hrun, -⟩ | ⟨-, rfl⟩ := hmode
    · simp [hrun]
    · exact nofun

/-- Settles O17: a step that does not halt runs on or took a fault, which records the opcode byte and its address. -/
theorem stepHasOneOfThreeOutcomes : Obligations.StepHasOneOfThreeOutcomes := by
  refine fun s => ⟨fun hm => ?_, step_notRunning⟩
  obtain ⟨t, h⟩ := exists_step hm
  refine ⟨t, h, ?_, halted_iff h⟩
  cases hmode : t.mode with
  | running => exact .inl rfl
  | halted => exact .inr (.inl rfl)
  | faulted =>
    obtain ⟨k, rfl⟩ := faultsArePrecise s t h hmode
    exact .inr (.inr ⟨rfl, k, rfl⟩)
  | idle => exact absurd hmode (step_mode_ne_idle h)

/-- Settles O16: the controller's decoder reads what the bytes at PC decode to, and the step ends as its instruction left
the machine. -/
theorem stepRunsTheDecodedInstruction : Obligations.StepRunsTheDecodedInstruction := by
  intro s t i rest hm hdecode he ht
  have hf : s.fetchInstr = some i := decodeBytes_of_decode hdecode
  have hstep := step_of_exec_next hm hf he ht
  refine ⟨hf, fun hrun hc => ?advance, fun hstay => ?stay⟩
  case advance => exact hstep.trans (congrArg Host.Outcome.next (finishStep_advance hrun hc))
  case stay => exact hstep.trans (congrArg Host.Outcome.next (finishStep_stay hstay))

/-! ## The invariant -/

/-- Memory stays in its canonical form. -/
theorem Effect.wf {i : Instr} {s t : State} (h : Effect i s t) (hs : s.mem.wf = true) : t.mem.wf = true := by
  cases h with
  | register => rwa [State.setP_mem, State.setReg_mem]
  | cell => exact s.wf_write _ _ hs
  | push => exact s.wf_push _ hs
  | call => exact State.wf_push _ _ (s.wf_push _ hs)
  | _ => simpa using hs

/-- Settles O49: memory changes by stores alone, a fault comes with its record, and a machine that runs has none. -/
theorem stepKeepsTheInvariant : Obligations.StepKeepsTheInvariant := by
  intro s t ⟨hwf, hrecord⟩ h
  obtain ⟨hm, he⟩ := stepEffect_of_step h
  have hnone : s.faultRecord.isSome = false := by simpa [hm] using hrecord
  cases he with
  | unrecognized | unimplemented => exact ⟨hwf, by simp [faultedState]⟩
  | @executed i t hf _ ht hmode =>
    refine ⟨?_, ?_⟩
    · rw [finishStep_mem]
      exact (effect_of_exec ht).wf hwf
    · rw [finishStep_mode, finishStep_faultRecord]
      obtain ⟨hrun, hkept⟩ | ⟨-, rfl⟩ := hmode
      · simp [hrun, hkept, hnone]
      · simp [hnone]

/-! ## The break bits -/

/-- No mnemonic computes a break bit. -/
theorem breakBits_not_computed (m : Mnemonic) : .BA ∉ m.flagsComputed ∧ .BB ∉ m.flagsComputed := by cases m <;> decide

/-- P loaded from the stack has the break bits of R26 and R27, whatever was pulled. -/
theorem breakBits_statusFromStack (b : Byte) :
    getFlag (statusFromStack b) .BA = false ∧ getFlag (statusFromStack b) .BB = true := by
  simp [getFlag_statusFromStack]

/-- PLP and RTI load the break bits with their fixed values; no other effect writes them (10_state.md R26, R27). -/
theorem Effect.breakBits {i : Instr} {s t : State} (h : Effect i s t) (hs : s.BreakBitsFixed) : t.BreakBitsFixed := by
  obtain ⟨hba, hbb⟩ := breakBits_not_computed i.mnemonic
  cases h with
  | register _ hp | flags hp | cell _ hp | pullA _ hp => exact ⟨(hp _ hba).trans hs.1, (hp _ hbb).trans hs.2⟩
  | pullP | interruptReturn => exact breakBits_statusFromStack _
  | _ => simpa [State.BreakBitsFixed, State.flag] using hs

theorem step_breakBits {s t : State} (hs : s.BreakBitsFixed) (h : step s = .next t) : t.BreakBitsFixed := by
  cases (stepEffect_of_step h).2 with
  | unrecognized | unimplemented => exact hs
  | @executed i t _ _ ht =>
    have he := (effect_of_exec ht).breakBits hs
    rwa [State.BreakBitsFixed, State.flag, State.flag, finishStep_p]

/-- What a step keeps, any number of steps keep. -/
theorem run_induction {M : Host.Core} {P : M.State → Prop} (hstep : ∀ s t, P s → M.step s = .next t → P t) {k : Nat}
    {s t : M.State} (hs : P s) (h : M.run k s = .next t) : P t := by
  induction k generalizing s with
  | zero =>
    cases h
    exact hs
  | succ k ih =>
    unfold Host.Core.run at h
    split at h
    next u hu => exact ih (hstep s u hs hu) h
    all_goals cases h

/-- Settles O52: a reset gives the bits, a step keeps them, and so does any number of steps. -/
theorem breakBitsStayFixed : Obligations.BreakBitsStayFixed := by
  refine ⟨fun _ _ => step_breakBits, fun s t k h => ?_⟩
  have hbits : getFlag 0x24 .BA = false ∧ getFlag 0x24 .BB = true := by decide
  have hreset : s.hostReset.BreakBitsFixed := hbits
  exact run_induction (M := Sys2Proof.core) (P := State.BreakBitsFixed) (fun _ _ => step_breakBits) hreset h

end Machine

end Sys2Proof
end

section
/-! Words, pointers and the canonical form of memory (20_memory.md R38 to R43), and the flag generator
(10_state.md R30). -/

namespace Sys2Proof

open Machine

namespace Machine

/-- The two cells of a word are apart, at 0xFFFF too. -/
theorem add_one_ne_self (a : Addr) : a + 1 ≠ a := by bv_omega

/-- What a byte reads as after a word store: the high byte at the second address, the low byte at the first (R41). -/
theorem State.read_writeWord (s : State) (a b v : Addr) :
    (s.writeWord a v).read b = if a + 1 = b then hiByte v else if a = b then loByte v else s.read b := by
  rw [writeWord, read_write, read_write]

theorem State.read_writeWord_low (s : State) (a v : Addr) : (s.writeWord a v).read a = loByte v := by
  rw [read_writeWord, if_neg (add_one_ne_self a), if_pos rfl]

theorem State.read_writeWord_high (s : State) (a v : Addr) : (s.writeWord a v).read (a + 1) = hiByte v := by
  rw [read_writeWord, if_pos rfl]

theorem State.read_writeWord_of_ne (s : State) {a b : Addr} (v : Addr) (hlow : b ≠ a) (hhigh : b ≠ a + 1) :
    (s.writeWord a v).read b = s.read b := by
  rw [read_writeWord, if_neg hhigh.symm, if_neg hlow.symm]

/-- A word is the byte at its address below the byte at the next (R40). -/
theorem State.readWord_eq (s : State) (a : Addr) : s.readWord a = word (s.read (a + 1)) (s.read a) := rfl

/-- Settles O7: the two cells of a word are apart, and hold its low and its high byte. -/
theorem wordStoreThenLoad : Obligations.WordStoreThenLoad := by
  refine fun s a b v => ⟨?roundTrip, ?low, ?high, s.read_writeWord_of_ne v, ?value⟩
  case roundTrip => rw [State.readWord_eq, s.read_writeWord_high, s.read_writeWord_low, word_hiByte_loByte]
  case low => rw [s.read_writeWord_low, loByte_toNat]
  case high => rw [s.read_writeWord_high, hiByte_toNat]
  case value => rw [State.readWord_eq, word_toNat]

/-- Settles O8: both bytes of the pointer are read at byte addresses, which a store outside page 0 misses. -/
theorem zeroPagePointerStaysInPageZero : Obligations.ZeroPagePointerStaysInPageZero := by
  intro s z a v
  have hz : z.toNat = z.toNat % 256 := (Nat.mod_eq_of_lt z.isLt).symm
  refine ⟨?value, fun ha => ?frame⟩
  case value => rw [s.zpRead16_toNat hz, ← hz]
  case frame =>
    have hne (b : Byte) : zext16 b ≠ a := by
      rintro rfl
      have hb := b.isLt
      rw [zext16_toNat] at ha
      omega
    rw [State.zpRead16, State.zpRead16, State.read_write_of_ne _ (hne z), State.read_write_of_ne _ (hne (z + 1))]

/-- Settles O11: SetNZ gives the Z and N of its result. -/
theorem zeroAndNegativeFollowTheResult : Obligations.ZeroAndNegativeFollowTheResult := setsFlags_putNZ

/-! ## The canonical form -/

namespace Memory

/-- A memory that lists a cell differs at that cell from every one whose cells all have higher addresses. -/
theorem read_ne_of_wfFrom_succ {k : Nat} {v : Byte} {m m' : Memory} (hv : v ≠ unlisted) (hm' : m'.wfFrom (k + 1) = true) :
    read ((k, v) :: m) k ≠ m'.read k := by
  rwa [read_cons, if_pos rfl, read_below m' (k + 1) k hm' (Nat.lt_succ_self k)]

/-- Canonical memories that read the same from `lo` up, and list nothing below, are equal: their first cells are at one
address and hold one byte, and the rest is equal in turn. -/
theorem eq_of_read_eq (m m' : Memory) (lo : Nat) (hm : m.wfFrom lo = true) (hm' : m'.wfFrom lo = true)
    (h : ∀ a < 65536, lo ≤ a → m.read a = m'.read a) : m = m' := by
  induction m generalizing m' lo with
  | nil =>
    cases m' with
    | nil => rfl
    | cons c m' =>
      obtain ⟨k, v⟩ := c
      obtain ⟨hlo, hk, hv, -⟩ := (wfFrom_cons ..).mp hm'
      exact absurd (h k hk hlo).symm (read_ne_of_wfFrom_succ hv rfl)
  | cons c m ih =>
    obtain ⟨k, v⟩ := c
    obtain ⟨hlo, hk, hv, htail⟩ := (wfFrom_cons ..).mp hm
    cases m' with
    | nil => exact absurd (h k hk hlo) (read_ne_of_wfFrom_succ hv rfl)
    | cons c' m' =>
      obtain ⟨k', v'⟩ := c'
      obtain ⟨hlo', hk', hv', htail'⟩ := (wfFrom_cons ..).mp hm'
      have hkey : k = k' := by
        rcases Nat.lt_trichotomy k k' with hlt | heq | hgt
        · exact absurd (h k hk hlo) (read_ne_of_wfFrom_succ hv ((wfFrom_cons ..).mpr ⟨hlt, hk', hv', htail'⟩))
        · exact heq
        · exact absurd (h k' hk' hlo').symm (read_ne_of_wfFrom_succ hv' ((wfFrom_cons ..).mpr ⟨hgt, hk, hv, htail⟩))
      subst hkey
      have hval : v = v' := by simpa [read_cons] using h k hk hlo
      have hrest : m = m' := by
        refine ih m' (k + 1) htail htail' fun a ha hka => ?_
        have hne : k ≠ a := by omega
        simpa [read_cons, hne] using h a ha (by omega)
      rw [hval, hrest]

end Memory

/-- Settles O10: cell by cell, from the lowest address up. -/
theorem canonicalMemoriesAreEqual : Obligations.CanonicalMemoriesAreEqual := by
  refine fun m m' hm hm' h => Memory.eq_of_read_eq m m' 0 hm hm' fun a ha _ => ?_
  have := h (BitVec.ofNat 16 a)
  rwa [BitVec.toNat_ofNat, Nat.mod_eq_of_lt ha] at this

/-! ## Operands -/

/-- An operand assembled from the bytes at PC and after it has the address that the resolver computes from them
(40_controller_resolver.md R76 to R84). -/
theorem address_assemble (s : State) (f : Form) :
    (f.assemble (s.read s.pc) (s.read (s.pc + 1))).address s = resolve f.mode s := by
  cases f <;> rfl

/-- Its byte is the one at that address (R86). -/
theorem value_assemble (s : State) (f : Form) :
    (f.assemble (s.read s.pc) (s.read (s.pc + 1))).value s = (resolve f.mode s).map s.read := by
  cases f <;> rfl

/-- Settles O15: the decoder assembles the operand from the bytes that the resolver reads at PC after the fetch. -/
theorem decodedOperandsMatchTheResolver : Obligations.DecodedOperandsMatchTheResolver := by
  intro s i hf
  obtain ⟨-, -, -, -, hop⟩ := State.row_of_fetchInstr hf
  have hnext : s.pc + 2 = s.pc + 1 + 1 := (BitVec.add_assoc s.pc 1 1).symm
  rw [hop, hnext]
  exact ⟨address_assemble s.fetched i.form, value_assemble s.fetched i.form⟩

/-! ## A call and its return -/

theorem stackAddr_injective : Function.Injective stackAddr := by
  intro a b h
  have hnat := congrArg BitVec.toNat h
  rw [stackAddr_toNat, stackAddr_toNat] at hnat
  exact BitVec.eq_of_toNat_eq (Nat.add_left_cancel hnat)

/-- Two pushes go to two cells. -/
theorem stackAddr_sub_one_ne (sp : Byte) : stackAddr (sp - 1) ≠ stackAddr sp :=
  fun h => absurd (stackAddr_injective h) (by bv_omega)

/-- The second pull after two pushes returns the first byte pushed: the second push went to another cell. -/
theorem State.pulled_popped_push_push (s : State) (hi lo : Byte) : ((s.push hi).push lo).popped.pulled = hi := by
  have hsp : s.sp - 1 - 1 + 1 + 1 = s.sp := by bv_omega
  rw [pulled, read_popped, popped_sp, push_sp, push_sp, hsp, read_push, push_sp, if_neg (stackAddr_sub_one_ne s.sp),
    read_push, if_pos rfl]

@[simp] theorem State.pulled_setPc (s : State) (v : Addr) : (s.setPc v).pulled = s.pulled := rfl

@[simp] theorem State.popped_setPc (s : State) (v : Addr) : (s.setPc v).popped = s.popped.setPc v := rfl

/-- Settles O39: the return pulls the two bytes that the call pushed. -/
theorem callThenReturn : Obligations.CallThenReturn := by
  intro s t u addr ht hu
  have hcall : t = ((s.push (hiByte (s.pc + 1))).push (loByte (s.pc + 1))).setPc addr :=
    (Host.Outcome.next.inj ht).symm
  have hreturn : u = t.popped.popped.setPc (word t.popped.pulled t.pulled + 1) := (Host.Outcome.next.inj hu).symm
  have hlow : t.pulled = loByte (s.pc + 1) := by rw [hcall, State.pulled_setPc, State.pulled_push]
  have hhigh : t.popped.pulled = hiByte (s.pc + 1) := by
    rw [hcall, State.popped_setPc, State.pulled_setPc, State.pulled_popped_push_push]
  have hpc : u.pc = s.pc + 1 + 1 := by rw [hreturn, State.setPc_pc, hlow, hhigh, word_hiByte_loByte]
  have hsp : u.sp = s.sp - 1 - 1 + 1 + 1 := by
    simp only [hreturn, hcall, State.setPc_sp, State.popped_sp, State.push_sp]
  refine ⟨hpc.trans (BitVec.add_assoc s.pc 1 1), hsp.trans (by bv_omega), ?_, ?_, ?_, ?_⟩
  all_goals simp [hreturn, hcall]

/-! ## Branch offsets -/

/-- The offset of a label is the byte whose sign extension is the distance to it (30_encoding.md R66). -/
theorem branchOffset_eq_some_iff (branch label : Addr) (rel : Byte) :
    branchOffset branch label = some rel ↔ label - (branch + 2) = sext16 rel := by
  have hrange := rel.toInt_lt
  have hrange' := rel.le_toInt
  unfold branchOffset
  generalize label - (branch + 2) = d
  constructor
  · intro h
    obtain ⟨⟨hlo, hhi⟩, h⟩ := Option.ite_none_right_eq_some.mp h
    apply BitVec.eq_of_toInt_eq
    rw [sext16_toInt, ← Option.some.inj h, BitVec.toInt_ofInt, Int.bmod_eq_of_le (by omega) (by omega)]
  · rintro rfl
    dsimp only
    rw [sext16_toInt, BitVec.ofInt_toInt]
    exact if_pos ⟨by omega, by omega⟩

/-- Settles O60: the label lies at the distance of the offset from the address after the branch. -/
theorem branchOffsetsReachTheirLabel : Obligations.BranchOffsetsReachTheirLabel := by
  intro s label rel
  have hbase : s.pc - 1 + 2 = s.pc + 1 := by bv_omega
  rw [branchOffset_eq_some_iff, hbase, State.branchTarget]
  exact ⟨fun h => by bv_omega, fun h => by bv_omega⟩

end Machine

end Sys2Proof
end

section
/-! The host operations (70_reset_and_hazards.md R172 to R179) and the ends of a run (60_exceptions.md R171). -/

namespace Sys2Proof

open Machine

namespace Machine

/-! ## Reset and load -/

/-- Settles O53: every field is written by name, and PC is the word at the reset vector. -/
theorem resetValues : Obligations.ResetValues := fun _ => rfl

/-- Settles O51: the reset state is the reset of a power-on state that lists no cell. -/
theorem resetHasTheInvariant : Obligations.ResetHasTheInvariant :=
  ⟨⟨Memory.wf_nil, by decide⟩, by decide, fun _ => rfl⟩

theorem hostLoad_of_fits {program : List Byte} (h : program.length ≤ 0x8000) (s : State) :
    hostLoad program s = .next (s.loaded program) := if_pos h

/-- `load` refuses a program of more than 0x8000 bytes (R179). -/
theorem hostLoad_of_tooLong {program : List Byte} (h : 0x8000 < program.length) (s : State) :
    hostLoad program s = .refused (.programTooLong program.length) := if_neg (Nat.not_le.mpr h)

/-- Settles O55: each refusal is decided by the mode or by the length alone. -/
theorem refusedHostOperations : Obligations.RefusedHostOperations :=
  fun s fuel _ => ⟨fun h => by rw [hostRun, h], fun h => by rw [hostRun, h], (hostLoad_of_tooLong · s)⟩

namespace State

/-- Copying writes memory alone. -/
theorem copyBytes_eq (s : State) (a : Addr) (bytes : List Byte) :
    s.copyBytes a bytes = { s with mem := (s.copyBytes a bytes).mem } := by
  induction bytes generalizing s a with
  | nil => rfl
  | cons b bytes ih =>
    rw [copyBytes, ih]
    rfl

/-- Copying that stays below the end of memory leaves the bytes at rising addresses and the other cells alone. -/
theorem read_copyBytes (s : State) (n : Nat) (bytes : List Byte) (h : n + bytes.length ≤ 65536) (x : Addr) :
    (s.copyBytes (BitVec.ofNat 16 n) bytes).read x =
      if n ≤ x.toNat ∧ x.toNat < n + bytes.length then bytes.getD (x.toNat - n) 0x00 else s.read x := by
  induction bytes generalizing s n with
  | nil =>
    rw [copyBytes, if_neg]
    rw [List.length_nil]
    omega
  | cons b bytes ih =>
    rw [List.length_cons] at h ⊢
    have hnext : BitVec.ofNat 16 n + 1 = BitVec.ofNat 16 (n + 1) := (BitVec.ofNat_add n 1).symm
    have hfirst : BitVec.ofNat 16 n = x ↔ x.toNat = n := by bv_omega
    rw [copyBytes, hnext, ih _ (n + 1) (by omega), read_write]
    simp only [hfirst]
    rcases Nat.lt_trichotomy x.toNat n with hlt | heq | hgt
    · rw [if_neg (by omega), if_neg (by omega), if_neg (by omega)]
    · rw [if_neg (by omega), if_pos heq, if_pos (by omega), heq, Nat.sub_self, List.getD_cons_zero]
    · have hsub : x.toNat - n = x.toNat - (n + 1) + 1 := by omega
      have hrange : n + 1 ≤ x.toNat ∧ x.toNat < n + 1 + bytes.length ↔
          n ≤ x.toNat ∧ x.toNat < n + (bytes.length + 1) := by omega
      simp only [hrange, hsub, List.getD_cons_succ, if_neg (Nat.ne_of_gt hgt)]

theorem wf_copyBytes (s : State) (a : Addr) (bytes : List Byte) (h : s.mem.wf = true) :
    (s.copyBytes a bytes).mem.wf = true := by
  induction bytes generalizing s a with
  | nil => exact h
  | cons b bytes ih => exact ih _ _ (s.wf_write a b h)

/-- What load leaves but for the contents of memory (R173). -/
theorem loaded_eq (s : State) (program : List Byte) :
    s.loaded program =
      { s with mem := (s.loaded program).mem, pc := 0x8000, mode := .running, faultRecord := none } := by
  unfold loaded
  rw [copyBytes_eq]
  split <;> rfl

/-- The memory that load leaves: the copy, and over it the vector. -/
theorem mem_loaded (s : State) (program : List Byte) :
    (s.loaded program).mem =
      (if s.cfg.loadWritesVector then (s.copyBytes loadOrigin program).writeWord resetVector loadOrigin
        else s.copyBytes loadOrigin program).mem := rfl

/-- The contents of memory after load: the vector where it is written, the program, and the rest as before (R173). -/
theorem read_loaded {program : List Byte} (h : program.length ≤ 0x8000) (s : State) (a : Addr) :
    (s.loaded program).read a =
      if s.cfg.loadWritesVector = true ∧ a = 0xFFFC then 0x00
      else if s.cfg.loadWritesVector = true ∧ a = 0xFFFD then 0x80
      else if 0x8000 ≤ a.toNat ∧ a.toNat < 0x8000 + program.length then program.getD (a.toNat - 0x8000) 0x00
      else s.read a := by
  have hcopy := s.read_copyBytes 0x8000 program (by omega) a
  rw [← hcopy, read_congr _ _ (s.mem_loaded program)]
  cases s.cfg.loadWritesVector with
  | false => simp [loadOrigin]
  | true =>
    have hhigh : resetVector + 1 = a ↔ a = 0xFFFD := eq_comm
    have hlow : resetVector = a ↔ a = 0xFFFC := eq_comm
    have hbytes : hiByte loadOrigin = 0x80 ∧ loByte loadOrigin = 0x00 := by decide
    have horder : a = 0xFFFC → a ≠ 0xFFFD := by rintro rfl; decide
    simp only [if_true, read_writeWord, hhigh, hlow, hbytes, true_and]
    by_cases hvec : a = 0xFFFC
    · rw [if_neg (horder hvec), if_pos hvec, if_pos hvec]
    · rw [if_neg hvec, if_neg hvec]
      rfl

theorem wf_loaded (s : State) (program : List Byte) (h : s.mem.wf = true) : (s.loaded program).mem.wf = true := by
  have hcopy := s.wf_copyBytes loadOrigin program h
  rw [mem_loaded]
  split
  · exact wf_writeWord _ _ _ hcopy
  · exact hcopy

/-- Load leaves the machine Running and clears the record (60_exceptions.md R160). -/
theorem inv_loaded (s : State) (program : List Byte) (h : s.mem.wf = true) : (s.loaded program).Inv := by
  refine ⟨s.wf_loaded program h, ?_⟩
  rw [s.loaded_eq program]
  simp

end State

/-- Settles O54: the copy writes the program, and the vector is written after it. -/
theorem loadWritesProgramAndVector : Obligations.LoadWritesProgramAndVector :=
  fun program s => ⟨fun h => ⟨s.loaded program, hostLoad_of_fits h s, s.loaded_eq program, s.read_loaded h⟩,
    (hostLoad_of_tooLong · s)⟩

/-- Settles O57: the run starts where load and reset left the machine, at the word that load left at the vector. -/
theorem loadAndRunStartsAtTheResetVector : Obligations.LoadAndRunStartsAtTheResetVector := by
  refine fun program s fuel => ⟨fun h => ?fits, fun h => ?tooLong⟩
  case tooLong => rw [hostLoadAndRun, hostLoad_of_tooLong h]
  case fits =>
    have hvector : (s.loaded program).hostReset.pc =
        (s.loaded program).read 0xFFFD ++ (s.loaded program).read 0xFFFC := rfl
    refine ⟨s.loaded program, (s.loaded program).hostReset, hostLoad_of_fits h s, ?run, ?state, fun hv => ?written,
      fun _ => hvector, fun hv hshort => ?kept⟩
    case run => rw [hostLoadAndRun, hostLoad_of_fits h]
    case state =>
      rw [resetValues, s.loaded_eq program]
    case written =>
      rw [hvector, s.read_loaded h, s.read_loaded h]
      simp [hv]
    case kept =>
      have hkept (a : Addr) (ha : 0xFFFC ≤ a.toNat) : (s.loaded program).read a = s.read a := by
        rw [s.read_loaded h, if_neg (by simp [hv]), if_neg (by simp [hv]), if_neg (by omega)]
      rw [hvector, hkept _ (by decide), hkept _ (by decide)]

/-! ## Runs -/

section

variable {s t : State}

theorem runLoop_of_running (h : step s = .next t) (hm : t.mode = .running) (fuel : Nat) :
    runLoop (fuel + 1) s = runLoop fuel t := by
  rw [runLoop, h]
  simp only [hm]

theorem runLoop_of_halted (h : step s = .next t) (hm : t.mode = .halted) (fuel : Nat) : runLoop (fuel + 1) s = .ok t := by
  rw [runLoop, h]
  simp only [hm]

/-- A step that faults holds the record that run returns. -/
theorem runLoop_of_faulted (h : step s = .next t) (hm : t.mode = .faulted) :
    ∃ r, t.faultRecord = some r ∧ ∀ fuel, runLoop (fuel + 1) s = .err r t := by
  obtain ⟨k, ht⟩ := faultsArePrecise s t h hm
  have hr : t.faultRecord = some ⟨k, s.read s.pc, s.pc⟩ := by rw [ht]
  refine ⟨_, hr, fun fuel => ?_⟩
  rw [runLoop, h]
  simp only [hm, hr]

/-- Outside the Running mode there is nothing to run. -/
theorem runLoop_notRunning (h : s.mode ≠ .running) (fuel : Nat) : runLoop (fuel + 1) s = .stuck s := by
  rw [runLoop, step_notRunning h]

end

theorem hostRun_running {s : State} (h : s.mode = .running) (fuel : Nat) : hostRun fuel s = runLoop fuel s := by
  rw [hostRun, h]

/-- From Halted, run resumes at PC (R175). -/
theorem hostRun_halted {s : State} (h : s.mode = .halted) (fuel : Nat) :
    hostRun fuel s = runLoop fuel { s with mode := .running } := by
  rw [hostRun, h]

/-- Settles O56: run from Halted makes the mode Running first, and the loop returns what its first step decides. -/
theorem runReturnsAtHaltOrFault : Obligations.RunReturnsAtHaltOrFault := by
  refine fun s t fuel => ⟨fun hm => ?resume, fun hm h => ⟨fun ht => ?halt, fun ht => ?fault, fun ht => ?next⟩⟩
  case resume => rw [hostRun_halted hm, hostRun_running rfl]
  case halt => rw [hostRun_running hm, runLoop_of_halted h ht]
  case fault =>
    obtain ⟨r, hr, hrun⟩ := runLoop_of_faulted h ht
    exact ⟨r, hr, (hostRun_running hm _).trans (hrun fuel)⟩
  case next => rw [hostRun_running hm, hostRun_running ht, runLoop_of_running h ht]

/-- How a run from Running goes on: its first step runs on, halts or faults. -/
inductive FirstStep (s : State) : Prop where
  | runs {t : State} (h : step s = .next t) (hm : t.mode = .running) (hrun : ∀ fuel, runLoop (fuel + 1) s = runLoop fuel t)
  | halts {t : State} (h : step s = .next t) (hrun : ∀ fuel, runLoop (fuel + 1) s = .ok t)
  | faults {t : State} {r : FaultRecord} (h : step s = .next t) (hrun : ∀ fuel, runLoop (fuel + 1) s = .err r t)

theorem firstStep {s : State} (hm : s.mode = .running) : FirstStep s := by
  obtain ⟨t, h⟩ := exists_step hm
  cases ht : t.mode with
  | running => exact .runs h ht (runLoop_of_running h ht)
  | halted => exact .halts h (runLoop_of_halted h ht)
  | faulted =>
    obtain ⟨r, -, hrun⟩ := runLoop_of_faulted h ht
    exact .faults h hrun
  | idle => exact absurd ht (step_mode_ne_idle h)

/-- The state with which a run ends has what the start has and every step keeps. -/
theorem runLoop_induction {P : State → Prop} (hstep : ∀ s t, P s → step s = .next t → P t) {fuel : Nat} {s t : State}
    {r : FaultRecord} (hs : P s) (hm : s.mode = .running)
    (h : runLoop fuel s = .ok t ∨ runLoop fuel s = .err r t ∨ runLoop fuel s = .outOfFuel t) : P t := by
  induction fuel generalizing s with
  | zero =>
    obtain h | h | h := h <;> cases h
    exact hs
  | succ fuel ih =>
    cases firstStep hm with
    | runs hu hmu hrun =>
      rw [hrun] at h
      exact ih (hstep _ _ hs hu) hmu h
    | halts hu hrun | faults hu hrun =>
      rw [hrun] at h
      obtain h | h | h := h <;> cases h
      exact hstep _ _ hs hu

/-- Settles O50: reset and load clear the record as they leave the machine Running, and a run keeps what its steps keep. -/
theorem hostOperationsKeepTheInvariant : Obligations.HostOperationsKeepTheInvariant := by
  refine ⟨fun s hwf => ⟨hwf, by simp⟩, fun program s t hwf h => ?load, fun fuel s t r hinv h => ?run⟩
  case load =>
    unfold hostLoad at h
    split at h <;> cases h
    exact s.inv_loaded program hwf
  case run =>
    obtain ⟨hwf, hrecord⟩ := hinv
    cases hm : s.mode with
    | idle => simp [hostRun, hm] at h
    | faulted => simp [hostRun, hm] at h
    | running =>
      rw [hostRun_running hm] at h
      exact runLoop_induction stepKeepsTheInvariant ⟨hwf, hrecord⟩ hm h
    | halted =>
      rw [hostRun_halted hm] at h
      have hnone : s.faultRecord.isSome = false := by simpa [hm] using hrecord
      have hresumed : ({ s with mode := .running } : State).Inv := ⟨hwf, by simp [hnone]⟩
      exact runLoop_induction stepKeepsTheInvariant hresumed rfl h

/-- A run from Running halts, faults or runs out of fuel. -/
theorem runLoop_running_cases {s : State} (hm : s.mode = .running) (fuel : Nat) :
    (∃ t, runLoop fuel s = .ok t) ∨ (∃ r t, runLoop fuel s = .err r t) ∨ ∃ t, runLoop fuel s = .outOfFuel t := by
  induction fuel generalizing s with
  | zero => exact .inr (.inr ⟨s, rfl⟩)
  | succ fuel ih =>
    cases firstStep hm with
    | runs _ hmt hrun =>
      rw [hrun]
      exact ih hmt
    | halts _ hrun => exact .inl ⟨_, hrun fuel⟩
    | faults _ hrun => exact .inr (.inl ⟨_, _, hrun fuel⟩)

/-- More fuel changes a result only if the fuel ran out. -/
theorem runLoop_add {s : State} {fuel : Nat} (h : ∀ t, runLoop fuel s ≠ .outOfFuel t) (more : Nat) :
    runLoop (fuel + more) s = runLoop fuel s := by
  induction fuel generalizing s with
  | zero => exact absurd rfl (h s)
  | succ fuel ih =>
    rw [Nat.add_right_comm]
    by_cases hm : s.mode = .running
    case neg => rw [runLoop_notRunning hm, runLoop_notRunning hm]
    cases firstStep hm with
    | runs _ _ hrun =>
      rw [hrun] at h ⊢
      rw [hrun, ih h]
    | halts _ hrun | faults _ hrun => rw [hrun, hrun]

/-- A run has one result, whatever the fuel it takes to reach it. -/
theorem runLoop_unique {s : State} {fuel fuel' : Nat} (h : ∀ t, runLoop fuel s ≠ .outOfFuel t)
    (h' : ∀ t, runLoop fuel' s ≠ .outOfFuel t) : runLoop fuel s = runLoop fuel' s := by
  rw [← runLoop_add h fuel', ← runLoop_add h' fuel, Nat.add_comm]

theorem not_faults_of_halts {s : State} : Halts s → ¬ Faults s := by
  rintro ⟨fuel, t, h⟩ ⟨fuel', r, t', h'⟩
  have := runLoop_unique (s := s) (fuel := fuel) (fuel' := fuel') (by simp [h]) (by simp [h'])
  simp [h, h'] at this

theorem not_hangs_of_halts {s : State} : Halts s → ¬ Hangs s := by
  rintro ⟨fuel, t, h⟩ hhangs
  obtain ⟨t', h'⟩ := hhangs fuel
  simp [h] at h'

theorem not_hangs_of_faults {s : State} : Faults s → ¬ Hangs s := by
  rintro ⟨fuel, r, t, h⟩ hhangs
  obtain ⟨t', h'⟩ := hhangs fuel
  simp [h] at h'

/-- What no fuel brings to a halt or a fault hangs. -/
theorem hangs_of_not {s : State} (hm : s.mode = .running) (hh : ¬ Halts s) (hf : ¬ Faults s) : Hangs s := by
  intro fuel
  obtain ⟨t, h⟩ | ⟨r, t, h⟩ | h := runLoop_running_cases hm fuel
  · exact absurd ⟨fuel, t, h⟩ hh
  · exact absurd ⟨fuel, r, t, h⟩ hf
  · exact h

/-- Settles O58: a result once reached is kept by more fuel, so the three ends exclude each other. -/
theorem runsEndInOneOfThreeWays : Obligations.RunsEndInOneOfThreeWays := by
  refine ⟨fun s hm => ?_, fun s t fuel more r => ⟨fun h => ?_, fun h => ?_⟩⟩
  · by_cases hh : Halts s
    · exact .inl ⟨hh, not_faults_of_halts hh, not_hangs_of_halts hh⟩
    by_cases hf : Faults s
    · exact .inr (.inl ⟨hh, hf, not_hangs_of_faults hf⟩)
    · exact .inr (.inr ⟨hh, hf, hangs_of_not hm hh hf⟩)
  · rw [runLoop_add (by simp [h]), h]
  · rw [runLoop_add (by simp [h]), h]

end Machine

end Sys2Proof
end

section
/-! Flags that nothing reads (10_state.md R24, R26, R27, 43_alu.md R114): executing from two states that differ in such a
flag gives states that differ in it at most. -/

namespace Sys2Proof

open Machine

/-- Addresses do not depend on P. -/
@[simp] theorem Operand.address_setP (o : Operand) (s : State) (q : Byte) : o.address (s.setP q) = o.address s := by
  cases o <;> rfl

/-- Operand bytes do not depend on P. -/
@[simp] theorem Operand.value_setP (o : Operand) (s : State) (q : Byte) : o.value (s.setP q) = o.value s := by
  cases o <;> rfl

namespace Machine

/-- `q` is `p` but for the flag `f`. -/
def AgreeBut (f : Flag) (p q : Byte) : Prop := ∀ g, g ≠ f → getFlag q g = getFlag p g

/-- Both results are next states, and they differ in the flag `f` at most. -/
def ResultsAgreeBut (f : Flag) (r r' : Result) : Prop :=
  ∃ t q, r = .next t ∧ r' = .next (t.setP q) ∧ AgreeBut f t.p q

/-- A flag that no instruction of the mnemonic `m` reads in the configuration of `s`, nor pushes beside the break bits. -/
def Unread (f : Flag) (m : Mnemonic) (s : State) : Prop :=
  f = .BA ∨ f = .BB ∨ (f = .I ∧ m ≠ .PHP) ∨ (f = .D ∧ m ≠ .PHP ∧ s.cfg.decimalMode = .binary)

theorem Unread.ne {f : Flag} {m : Mnemonic} {s : State} (h : Unread f m s) :
    .C ≠ f ∧ .Z ≠ f ∧ .V ≠ f ∧ .N ≠ f := by
  obtain rfl | rfl | ⟨rfl, -⟩ | ⟨rfl, -⟩ := h <;> decide

namespace AgreeBut

variable {f : Flag} {p q : Byte}

theorem putFlag (h : AgreeBut f p q) (g : Flag) (b : Bool) : AgreeBut f (putFlag p g b) (putFlag q g b) := by
  intro g' hne
  rw [getFlag_putFlag, getFlag_putFlag, h g' hne]

theorem putNZ (h : AgreeBut f p q) (r : Byte) : AgreeBut f (putNZ p r) (putNZ q r) :=
  (h.putFlag .Z _).putFlag .N _

theorem putSum (h : AgreeBut f p q) (t : Sum) : AgreeBut f (putSum p t) (putSum q t) :=
  ((h.putFlag .C _).putFlag .V _).putNZ _

theorem putCompare (h : AgreeBut f p q) (r m : Byte) : AgreeBut f (putCompare p r m) (putCompare q r m) :=
  (h.putFlag .C _).putNZ _

theorem putBitTest (h : AgreeBut f p q) (a m : Byte) : AgreeBut f (putBitTest p a m) (putBitTest q a m) :=
  ((h.putFlag .Z _).putFlag .N _).putFlag .V _

theorem putShifted (h : AgreeBut f p q) (t : Shifted) : AgreeBut f (putShifted p t) (putShifted q t) :=
  (h.putFlag .C _).putNZ _

theorem refl (f : Flag) (p : Byte) : AgreeBut f p p := fun _ _ => rfl

/-- PHP pushes both break bits set, so what they were does not matter. -/
theorem statusToStack (h : AgreeBut f p q) (hf : f = .BA ∨ f = .BB) : statusToStack q = statusToStack p := by
  refine byte_eq_of_flags _ _ fun g => ?_
  rw [getFlag_statusToStack, getFlag_statusToStack]
  split
  · rfl
  split
  · rfl
  next hba hbb =>
    refine h g ?_
    rintro rfl
    exact hf.elim hba hbb

end AgreeBut

namespace ResultsAgreeBut

variable {f : Flag} {s : State} {q : Byte} {i : Instr}

theorem withValue {k k' : Byte → State} (hq : AgreeBut f s.p q)
    (hk : ∀ m, ∃ q', k' m = (k m).setP q' ∧ AgreeBut f (k m).p q') :
    ResultsAgreeBut f (withValue i s k) (withValue i (s.setP q) k') := by
  unfold Machine.withValue
  rw [Operand.value_setP]
  split
  next m _ =>
    obtain ⟨q', hk', hq'⟩ := hk m
    exact ⟨k m, q', rfl, congrArg _ hk', hq'⟩
  next => exact ⟨_, q, rfl, rfl, hq⟩

theorem withAddress {k k' : Addr → State} (hq : AgreeBut f s.p q)
    (hk : ∀ ea, ∃ q', k' ea = (k ea).setP q' ∧ AgreeBut f (k ea).p q') :
    ResultsAgreeBut f (withAddress i s k) (withAddress i (s.setP q) k') := by
  unfold Machine.withAddress
  rw [Operand.address_setP]
  split
  next ea _ =>
    obtain ⟨q', hk', hq'⟩ := hk ea
    exact ⟨k ea, q', rfl, congrArg _ hk', hq'⟩
  next => exact ⟨_, q, rfl, rfl, hq⟩

/-- The decimal check reads D under REFUSE alone, so both of ADC and SBC refuse or neither does. -/
theorem sum (hq : AgreeBut f s.p q) (hd : (s.setP q).decimalRefused = s.decimalRefused) (t : Sum) :
    ∃ q', (s.setP q).orDecimalFault i ((s.setP q).setSum t) = (s.orDecimalFault i (s.setSum t)).setP q' ∧
      AgreeBut f (s.orDecimalFault i (s.setSum t)).p q' := by
  unfold State.orDecimalFault
  rw [hd]
  split
  · exact ⟨q, rfl, hq⟩
  · exact ⟨putSum q t, rfl, hq.putSum t⟩

theorem shift {g : Byte → Bool → Shifted} (hq : AgreeBut f s.p q) (hc : (s.setP q).flag .C = s.flag .C) :
    ResultsAgreeBut f (shift g i s) (shift g i (s.setP q)) := by
  unfold Machine.shift
  rw [hc]
  split
  · exact ⟨_, _, rfl, rfl, hq.putShifted _⟩
  · exact withAddress hq fun ea => ⟨_, rfl, hq.putShifted _⟩

end ResultsAgreeBut

/-- The decimal check reads D under REFUSE alone (R114). -/
theorem Unread.decimalRefused {f : Flag} {m : Mnemonic} {s : State} {q : Byte} (hf : Unread f m s)
    (hq : AgreeBut f s.p q) : (s.setP q).decimalRefused = s.decimalRefused := by
  by_cases hd : f = .D
  · obtain ⟨-, hbin⟩ : m ≠ .PHP ∧ s.cfg.decimalMode = .binary := by simpa [Unread, hd] using hf
    simp [State.decimalRefused, hbin]
  · exact congrArg (decide (s.cfg.decimalMode = .refuse) && ·) (hq .D (Ne.symm hd))

theorem ResultsAgreeBut.branch {f g : Flag} {s : State} {q : Byte} (hq : AgreeBut f s.p q) (hg : g ≠ f) (b : Bool)
    (rel : Byte) : ResultsAgreeBut f (branch (s.flag g == b) rel s) (branch ((s.setP q).flag g == b) rel (s.setP q)) := by
  have hflag : (s.setP q).flag g = s.flag g := hq g hg
  rw [hflag]
  exact ⟨_, q, rfl, rfl, hq⟩

theorem exec_controlTransfer_agreeBut {f : Flag} {i : Instr} {s : State} {q : Byte} (hi : i.isControlTransfer = true)
    (hf : Unread f i.mnemonic s) (hq : AgreeBut f s.p q) : ResultsAgreeBut f (exec i s) (exec i (s.setP q)) := by
  obtain ⟨hc, hz, hv, hn⟩ := hf.ne
  cases i with
  | jmpAbs _ | jmpInd _ | jsr _ | rts => exact ⟨_, q, rfl, rfl, hq⟩
  | rti => exact ⟨_, _, rfl, rfl, .refl _ _⟩
  | bpl rel => exact .branch hq hn false rel
  | bmi rel => exact .branch hq hn true rel
  | bvc rel => exact .branch hq hv false rel
  | bvs rel => exact .branch hq hv true rel
  | bcc rel => exact .branch hq hc false rel
  | bcs rel => exact .branch hq hc true rel
  | bne rel => exact .branch hq hz false rel
  | beq rel => exact .branch hq hz true rel
  | _ => exact Bool.noConfusion hi

theorem meaning_agreeBut {f : Flag} {i : Instr} {s : State} {q : Byte} {m : Mnemonic} (hm : m.isControlTransfer = false)
    (hf : Unread f m s) (hq : AgreeBut f s.p q) : ResultsAgreeBut f (m.meaning i s) (m.meaning i (s.setP q)) := by
  have hc : (s.setP q).flag .C = s.flag .C := hq .C hf.ne.1
  cases m with
  | LDA | LDX | LDY | AND | ORA | EOR => exact .withValue hq fun _ => ⟨_, rfl, hq.putNZ _⟩
  | CMP | CPX | CPY => exact .withValue hq fun _ => ⟨_, rfl, hq.putCompare _ _⟩
  | BIT => exact .withValue hq fun _ => ⟨_, rfl, hq.putBitTest _ _⟩
  | ADC | SBC =>
    refine .withValue hq fun v => ?_
    rw [hc]
    exact ResultsAgreeBut.sum hq (hf.decimalRefused hq) _
  | STA | STX | STY => exact .withAddress hq fun _ => ⟨q, rfl, hq⟩
  | INC | DEC => exact .withAddress hq fun _ => ⟨_, rfl, hq.putNZ _⟩
  | ASL | LSR | ROL | ROR => exact .shift hq hc
  | TAX | TAY | TXA | TYA | TSX | INX | INY | DEX | DEY | PLA => exact ⟨_, _, rfl, rfl, hq.putNZ _⟩
  | CLC | SEC | CLI | SEI | CLD | SED | CLV => exact ⟨_, _, rfl, rfl, hq.putFlag _ _⟩
  | TXS | PHA | BRK | NOP => exact ⟨_, q, rfl, rfl, hq⟩
  | PLP => exact ⟨_, _, rfl, rfl, .refl _ _⟩
  | PHP =>
    have hbits : f = .BA ∨ f = .BB := by simpa [Unread] using hf
    have hpushed := congrArg (fun b => (.next ((s.setP q).push b) : Result)) (hq.statusToStack hbits)
    exact ⟨_, q, rfl, hpushed, hq⟩
  | JMP | JSR | RTS | RTI | BPL | BMI | BVC | BVS | BCC | BCS | BNE | BEQ => exact absurd hm (by decide)

/-- What an instruction leaves differs only in an unread flag that differed before. -/
theorem exec_agreeBut {f : Flag} {i : Instr} {s : State} {q : Byte} (hf : Unread f i.mnemonic s) (hq : AgreeBut f s.p q) :
    ResultsAgreeBut f (exec i s) (exec i (s.setP q)) := by
  cases hi : i.isControlTransfer with
  | true => exact exec_controlTransfer_agreeBut hi hf hq
  | false =>
    rw [exec_eq_meaning, exec_eq_meaning]
    exact meaning_agreeBut hi hf hq

/-- Settles O48: writing a flag changes P in that flag alone, and no meaning reads an unread flag. -/
theorem unreadFlagsDoNotMatter : Obligations.UnreadFlagsDoNotMatter := by
  intro i s f b hf
  have hput : AgreeBut f s.p (putFlag s.p f b) := fun g hg => by rw [getFlag_putFlag, if_neg hg]
  obtain ⟨t, q, ht, ht', hq⟩ := exec_agreeBut hf hput
  exact ⟨t, t.setP q, ht, ht', rfl, hq⟩

end Machine

end Sys2Proof
end

section
/-! A store is seen by the next fetch (20_memory.md R53, 92_eei_decisions.md D16). -/

namespace Sys2Proof

open Machine

namespace Machine

/-- A mnemonic whose result goes to a register stores nothing. -/
theorem storedBytes_of_resultReg {i : Instr} {r : Reg} (h : i.mnemonic.resultReg i.form = some r) (s : State) :
    i.storedBytes s = [] := by
  refine List.map_eq_nil_iff.mp ((i.map_fst_storedBytes s).trans ?_)
  by_cases ha : i.form = .accumulator
  · exact Instr.storedAddrs_of_accumulator ha s
  · refine Instr.storedAddrs_of_other ?_ s
    generalize i.mnemonic = m at h
    cases m with
    | STA | STX | STY | INC | DEC | PHA | PHP | JSR => nomatch h
    | ASL | LSR | ROL | ROR => simp [Mnemonic.resultReg, ha] at h
    | _ => decide

/-- After an effect each cell that it stores to holds the byte that its rule names. -/
theorem Effect.read_stored {i : Instr} {s t : State} (h : Effect i s t) {ea : Addr} {v : Byte}
    (hmem : (ea, v) ∈ i.storedBytes s) : t.read ea = v := by
  cases h with
  | cell hst =>
    rw [hst, List.mem_singleton] at hmem
    cases hmem
    exact s.read_write_self ea v
  | push _ hst =>
    rw [hst, List.mem_singleton] at hmem
    cases hmem
    rw [State.read_push, if_pos rfl]
  | call _ hst =>
    rw [hst, List.mem_cons, List.mem_singleton] at hmem
    obtain hmem | hmem := hmem <;> cases hmem
    · rw [State.read_setPc, State.read_push, State.push_sp, if_neg (stackAddr_sub_one_ne s.sp),
        State.read_push, if_pos rfl]
    · rw [State.read_setPc, State.read_push, State.push_sp, if_pos rfl]
  | register hr => simp [storedBytes_of_resultReg hr] at hmem
  | flags _ hst | jump hst => simp [hst] at hmem
  | pullA hm | pullP hm | callReturn hm | interruptReturn hm | halt hm => simp [Instr.storedBytes, hm] at hmem
  | refused hm => rcases hm with hm | hm <;> simp [Instr.storedBytes, hm] at hmem

/-- Settles O59: the instruction's stores are in the memory it leaves, which is the memory that the next step fetches
from. -/
theorem storesAreSeenByTheNextFetch : Obligations.StoresAreSeenByTheNextFetch := by
  refine ⟨fun i s t h => ⟨i.map_fst_storedBytes s, fun ea v hst u hu => ?fetch⟩, fun i s u hm hf he h => ?step⟩
  case fetch =>
    have hread : u.read ea = v := (State.read_congr t u hu ea).trans ((effect_of_exec h).read_stored hst)
    refine ⟨?opcode, ?first, ?second⟩
    case opcode =>
      rintro rfl
      rw [← hread]
      rfl
    case first =>
      rintro rfl
      rw [← hread, BitVec.add_assoc]
      rfl
    case second =>
      rintro rfl
      rw [← hread]
      rfl
  case step =>
    obtain ⟨t, ht, -⟩ := exec_next i s.fetched
    cases (step_of_exec_next hm hf he ht).symm.trans h
    exact ⟨t, ht, finishStep_mem i t⟩

end Machine

end Sys2Proof
end
